-- ==== Sys2Proof/Word.lean ====
section
/-! DEFINITION. The word types of the block (spec/00_scope.md R6): bytes, 32-bit words, and the fixed-length byte
and word sequences its registers hold. Every value is unsigned (R6). -/

namespace Sys2Proof

/-- A byte, 8 bits (R6). -/
abbrev Byte := BitVec 8

/-- A 32-bit word: one host bus word, one word of CW. -/
abbrev Word := BitVec 32

/-- A 64-byte sequence, byte 0 first: a SHA-512 digest, PD, SD, an operand A or K of port B (R23, R73). -/
abbrev Bytes64 := Vector Byte 64

/-- A 32-byte sequence, byte 0 first: BLOCK and PREV (R24). -/
abbrev Bytes32 := Vector Byte 32

/-- Eight 32-bit words, word 0 first: CW and operand W of port B (R25, R73). -/
abbrev Words8 := Vector Word 8

end Sys2Proof
end

