-- ==== Sys2Proof/Config.lean ====
section
/-! DEFINITION. What an implementation fixes and what the spec leaves open (spec/00_scope.md R5, spec/41 R106 to R109,
spec/93_implementation_defined.md): the parameters of one instance, the events that can come next (R10, R52), the
collaborators' contexts (R27), and the free values, opaque constants without a body. -/

namespace Sys2Proof

/-- Which digest function the SHA-512 engine computes. `fips` is the engine of the hardware (R5: fixed). `stub` is the test
engine of spec/95_test_vectors.md section 3. -/
inductive ShaFn where
  | fips | stub
deriving DecidableEq, Repr, Inhabited

/-- Which four functions the Blowfish-family engine computes. `openFns` are the OPEN configuration functions of R107,
about which nothing is known. `standard` is the instantiation of spec/93_implementation_defined.md I12, and `stub` the test
engine of spec/95_test_vectors.md section 3. -/
inductive BfFn where
  | openFns | standard | stub
deriving DecidableEq, Repr, Inhabited

/-- The parameters of one instance, fixed while it runs (R5). PW_MAX and SALT_MAX are held less one, so that every value of
the type is a legal one, 1 to 4096. BKDF_BASE is held as its number of 0x4000-byte regions. -/
structure Params where
  pwMaxLess1 : BitVec 12
  saltMaxLess1 : BitVec 12
  baseRegion : Nat
  sha : ShaFn
  bf : BfFn
deriving DecidableEq, Repr, Inhabited

/-- PW_MAX, the capacity of PWBUF in bytes: 1 to 4096 (R5). -/
def Params.pwMax (p : Params) : Nat := p.pwMaxLess1.toNat + 1

/-- SALT_MAX, the capacity of SALTBUF in bytes: 1 to 4096 (R5). -/
def Params.saltMax (p : Params) : Nat := p.saltMaxLess1.toNat + 1

/-- BKDF_BASE, a multiple of 0x4000 (R5, R40). -/
def Params.base (p : Params) : Nat := p.baseRegion * 0x4000

/-- The reference values of R5, 256 bytes each, the engines of R5 and a region at address 0 (assumption 2). -/
def Params.reference : Params :=
  { pwMaxLess1 := 255, saltMaxLess1 := 255, baseRegion := 0, sha := .fips, bf := .openFns }

/-- The width of one host bus access (R42). -/
inductive Width where
  | byte | half | word
deriving DecidableEq, Repr, Inhabited

/-- One access of the host bus, before the block has judged it: direction, absolute byte address, width, byte lanes and
write data (R40, R42, R43). -/
structure BusAccess where
  write : Bool
  addr : Nat
  width : Width
  lanes : BitVec 4
  wdata : Word
deriving DecidableEq, Repr, Inhabited

/-- What happens next: one step of one of the four agents of R10, or the reset of R210.
`host` is one bus access. `seq` is one step of the sequencer. `acceptS` and `acceptB` are the acceptance of the request in
the port's slot, and `answerS` and `answerB` the answer to it, with the drawn error bit (R101, R108). -/
inductive Event where
  | host (a : BusAccess)
  | seq
  | acceptS
  | answerS (err : Bool)
  | acceptB
  | answerB (err : Bool)
  | rst
deriving DecidableEq, Repr, Inhabited

/-- The digest context μ of the SHA-512 engine: a byte sequence or CLEARED (R106). -/
inductive Mu where
  | cleared
  | ctx (bytes : List Byte)
deriving DecidableEq, Repr, Inhabited

/-- The cipher state σ of the Blowfish-family engine: an element of Σ, held as a word list, or CLEARED (R107). -/
inductive Sigma where
  | cleared
  | st (words : List Word)
deriving DecidableEq, Repr, Inhabited

/-- The response the host bus shows for the latest access: none yet, the data of a read, the completion of a write, or the
error response of R43. -/
inductive BusRsp where
  | idle
  | data (v : Word)
  | written
  | busError
deriving DecidableEq, Repr, Inhabited

/-- FREE VALUE. The n-th event where nothing says which agent moves next (R52, I23). -/
opaque Config.nextEvent : Nat → Event

/-- FREE VALUE. A digest context the spec leaves unspecified: after SHA_FINAL (R106), after an answer with err = 1 (R108,
I21), after an operation on a CLEARED context, after a reset of the block (I9). -/
opaque Config.freeMu : Nat → Mu

/-- FREE VALUE. A cipher state the spec leaves unspecified (R108, I9, I21), or the result of an operation on a CLEARED
state (R107). -/
opaque Config.freeSigma : Nat → Sigma

/-- FREE VALUE. The 64 bytes on `s_rsp_data` in a response whose data the block does not read (R75, I20). -/
opaque Config.freeDigest : Nat → Bytes64

/-- FREE VALUE. The eight words on `b_rsp_w` in a response whose data the block does not read (R75, I20). -/
opaque Config.freeWords : Nat → Words8

/-- OPEN parameter bf_init (R107). -/
opaque Config.bfInit : List Word

/-- OPEN parameter bf_expand: state, salt input, key input (R107). -/
opaque Config.bfExpand : List Word → Bytes64 → Bytes64 → List Word

/-- OPEN parameter bf_expand0: state, the single input (R107). -/
opaque Config.bfExpand0 : List Word → Bytes64 → List Word

/-- OPEN parameter bf_encrypt: state, eight words (R107). -/
opaque Config.bfEncrypt : List Word → Words8 → Words8

end Sys2Proof
end

