-- ==== Sys2Proof/Machine/Bytes.lean ====
section
/-! DEFINITION. The byte orders of spec/00_scope.md R6 and spec/20_memory.md R44, R48: a word's bytes and back, and the
little-endian lanes of the port signals (spec/30_encoding.md R71, R73, R75). -/

namespace Sys2Proof.Machine

/-- Byte j of a word, counted from the least significant end: `v[8j+7:8j]` (R6, R44). -/
def byteOf (v : Word) (j : Nat) : Byte := v.extractLsb' (8 * j) 8

/-- `BE32(v)`: most significant byte first (R6). -/
def be32 (v : Word) : List Byte := [byteOf v 3, byteOf v 2, byteOf v 1, byteOf v 0]

/-- `LE32(v)`: least significant byte first (R6). -/
def le32 (v : Word) : List Byte := [byteOf v 0, byteOf v 1, byteOf v 2, byteOf v 3]

/-- `wordBE(b0, b1, b2, b3)` (R6). -/
def wordBE (b0 b1 b2 b3 : Byte) : Word :=
  BitVec.ofNat 32 (b0.toNat * 2 ^ 24 + b1.toNat * 2 ^ 16 + b2.toNat * 2 ^ 8 + b3.toNat)

/-- `wordLE(b0, b1, b2, b3)` (R6). -/
def wordLE (b0 b1 b2 b3 : Byte) : Word :=
  BitVec.ofNat 32 (b0.toNat + b1.toNat * 2 ^ 8 + b2.toNat * 2 ^ 16 + b3.toNat * 2 ^ 24)

/-- A byte sequence as a number, byte t at bits 8t+7:8t: the lane order of every port signal (R71, R73, R75). -/
def lanesToNat : List Byte → Nat
  | [] => 0
  | b :: bs => b.toNat + 256 * lanesToNat bs

/-- The first n byte lanes of a number, byte t from bits 8t+7:8t (R71). -/
def natToLanes : Nat → Nat → List Byte
  | 0, _ => []
  | n + 1, v => BitVec.ofNat 8 v :: natToLanes n (v / 256)

/-- Eight words as a number, word j at bits 32j+31:32j (R73, R75). -/
def wordLanesToNat : List Word → Nat
  | [] => 0
  | w :: ws => w.toNat + 2 ^ 32 * wordLanesToNat ws

end Sys2Proof.Machine
end

