-- ==== Sys2Proof/Syntax.lean ====
section
/-! DEFINITION. The instructions: one constructor of `Instr` per row of spec/opcode_table.json (spec/30_encoding.md
R60, R78), the 26 sequencer states (R70), and the encoded items the decoder reads (R60): bus operations, command words,
state codes and port requests. -/

namespace Sys2Proof

/-- The 26 states of the sequencer (spec/30_encoding.md R70), the values of the register STATE (R20). The six reserved
codes 0x1A to 0x1F are no states (spec/93_implementation_defined.md I8). -/
inductive SeqState where
  | idle | check
  | phInit | phUpd | phFin
  | ssInit | ssUpd | ssFin
  | bhInit | bhExp | bhE0s | bhE0p | bhLdc | bhEnc | bhSer | bhClr
  | acc
  | rhInit | rhUpd | rhFin
  | dist
  | finSclr | finZero
  | errSclr | errBclr | errZero
deriving DecidableEq, Repr, Inhabited

/-- Which collaborator port a state's request goes to (the "port request" column of R70). -/
inductive PortKind where
  | none | portS | portB
deriving DecidableEq, Repr, Inhabited

/-- One beat of port S's request channel (R71): the header beat carries op, len, data (driven 0) and last; a payload
beat carries data and last. -/
inductive SBeat where
  | header (op : BitVec 4) (len : BitVec 13) (data : BitVec 64) (last : Bool)
  | payload (data : BitVec 64) (last : Bool)
deriving DecidableEq, Repr, Inhabited

/-- One request on port B, a single beat (R73): opcode and the three operands, each zero when unused. -/
structure BReq where
  op : BitVec 4
  a : Bytes64
  k : Bytes64
  w : Words8
deriving DecidableEq, Repr, Inhabited

/-- One response of port S (R75). -/
structure SRsp where
  err : Bool
  data : Bytes64
deriving DecidableEq, Repr, Inhabited

/-- One response of port B (R75). -/
structure BRsp where
  err : Bool
  w : Words8
deriving DecidableEq, Repr, Inhabited

/-- An encoded item (R60). `bus`: the 15 bits of HOSTBUS15 (bit 14 direction, bits 13:0 offset) and the write data;
`cmd`: the 32-bit command word; `state`: the 5-bit state code; `portS`: the beats of a request; `portB`: the one beat of
a request. Which of the five an item is, is fixed by the register or port that carries it (R60). -/
inductive Item where
  | bus (bits : BitVec 15) (v : Word)
  | cmd (w : Word)
  | state (code : BitVec 5)
  | portS (beats : List SBeat)
  | portB (r : BReq)
deriving DecidableEq, Repr, Inhabited

/-- One constructor per row of spec/opcode_table.json, in the table's order. -/
inductive Instr where
  -- host bus operations (spec/40_host_commands.md R81 to R92)
  | rd32 (off : BitVec 14)
  | wr32 (off : BitVec 14) (v : Word)
  | wr32Ctrl (v : Word)
  | wr32Status (v : Word)
  | wr32Cmd (w : Word)
  | wr32PwLen (v : Word)
  | wr32SaltLen (v : Word)
  | wr32OutLen (v : Word)
  | wr32Rounds (v : Word)
  | wr32Pwbuf (k : BitVec 10) (v : Word)
  | wr32Saltbuf (k : BitVec 10) (v : Word)
  -- command words (R61 to R63, R87 to R90)
  | nop
  | start
  | abort
  | zeroize
  | cmdIllegal (w : Word)
  -- sequencer micro-steps (R70)
  | stateIdle
  | stateCheck
  | statePhInit
  | statePhUpd
  | statePhFin
  | stateSsInit
  | stateSsUpd
  | stateSsFin
  | stateBhInit
  | stateBhExp
  | stateBhE0s
  | stateBhE0p
  | stateBhLdc
  | stateBhEnc
  | stateBhSer
  | stateBhClr
  | stateAcc
  | stateRhInit
  | stateRhUpd
  | stateRhFin
  | stateDist
  | stateFinSclr
  | stateFinZero
  | stateErrSclr
  | stateErrBclr
  | stateErrZero
  -- port S requests (R72, R110 to R113)
  | shaInit
  | shaUpdate (p : List Byte)
  | shaFinal
  | shaClear
  -- port B requests (R74, R114 to R118)
  | bfInit
  | bfExpand (a : Bytes64) (k : Bytes64)
  | bfExpand0 (a : Bytes64)
  | bfEncrypt (w : Words8)
  | bfClear
deriving DecidableEq, Repr, Inhabited

end Sys2Proof
end

