-- ==== Sys2Proof/Decode.lean ====
section
/-! DEFINITION. The decoder of the four kinds of encoded item (spec/30_encoding.md R60 to R78) and the encoder. -/

namespace Sys2Proof

open Sys2Proof.Machine (byteOf lanesToNat natToLanes)

/-- Why an item is no instruction. -/
inductive Reject where
  /-- A bus operation with off[1:0] ≠ 00 selects no row (R78, spec/20_memory.md R43). -/
  | misaligned
  /-- A state code 0x1A to 0x1F (R70, I8). -/
  | reservedState (code : BitVec 5)
  /-- A port opcode that R72 or R74 calls reserved (I13). -/
  | reservedPortOp (op : BitVec 4)
  /-- A port request whose beats or unused operands are not of the format of R71 or R73. -/
  | malformedRequest
deriving DecidableEq, Repr

/-- What the decoder answers: an instruction, or a rejection by name. -/
inductive Decoded where
  | ok (i : Instr)
  | reject (r : Reject)
deriving DecidableEq, Repr

/-- The instruction of an accepted item. -/
def Decoded.toInstr : Decoded → Option Instr
  | .ok i => some i
  | .reject _ => none

/-! ### State codes (R70) -/

/-- The 5-bit code of a state (R70). -/
def SeqState.code : SeqState → BitVec 5
  | .idle => 0x00 | .check => 0x01
  | .phInit => 0x02 | .phUpd => 0x03 | .phFin => 0x04
  | .ssInit => 0x05 | .ssUpd => 0x06 | .ssFin => 0x07
  | .bhInit => 0x08 | .bhExp => 0x09 | .bhE0s => 0x0A | .bhE0p => 0x0B
  | .bhLdc => 0x0C | .bhEnc => 0x0D | .bhSer => 0x0E | .bhClr => 0x0F
  | .acc => 0x10
  | .rhInit => 0x11 | .rhUpd => 0x12 | .rhFin => 0x13
  | .dist => 0x14
  | .finSclr => 0x15 | .finZero => 0x16
  | .errSclr => 0x17 | .errBclr => 0x18 | .errZero => 0x19

/-- The states in the order of their codes 0x00 to 0x19 (R70). -/
def SeqState.all : List SeqState :=
  [.idle, .check, .phInit, .phUpd, .phFin, .ssInit, .ssUpd, .ssFin, .bhInit, .bhExp, .bhE0s, .bhE0p, .bhLdc, .bhEnc,
    .bhSer, .bhClr, .acc, .rhInit, .rhUpd, .rhFin, .dist, .finSclr, .finZero, .errSclr, .errBclr, .errZero]

/-- The state a 5-bit code names, none for the reserved codes 0x1A to 0x1F (R70, I8). -/
def SeqState.ofCode (c : BitVec 5) : Option SeqState := SeqState.all[c.toNat]?

/-- The port a state's one request goes to, if it issues one (the "port request" column of R70). -/
def SeqState.port : SeqState → PortKind
  | .phInit | .phUpd | .phFin | .ssInit | .ssUpd | .ssFin | .rhInit | .rhUpd | .rhFin | .finSclr | .errSclr => .portS
  | .bhInit | .bhExp | .bhE0s | .bhE0p | .bhEnc | .bhClr | .errBclr => .portB
  | .idle | .check | .bhLdc | .bhSer | .acc | .dist | .finZero | .errZero => .none

/-- The micro-step that executes a state, one row of format STATE5 each (R70, R78). -/
def SeqState.instr : SeqState → Instr
  | .idle => .stateIdle | .check => .stateCheck
  | .phInit => .statePhInit | .phUpd => .statePhUpd | .phFin => .statePhFin
  | .ssInit => .stateSsInit | .ssUpd => .stateSsUpd | .ssFin => .stateSsFin
  | .bhInit => .stateBhInit | .bhExp => .stateBhExp | .bhE0s => .stateBhE0s | .bhE0p => .stateBhE0p
  | .bhLdc => .stateBhLdc | .bhEnc => .stateBhEnc | .bhSer => .stateBhSer | .bhClr => .stateBhClr
  | .acc => .stateAcc
  | .rhInit => .stateRhInit | .rhUpd => .stateRhUpd | .rhFin => .stateRhFin
  | .dist => .stateDist
  | .finSclr => .stateFinSclr | .finZero => .stateFinZero
  | .errSclr => .stateErrSclr | .errBclr => .stateErrBclr | .errZero => .stateErrZero

/-! ### Host bus operations and command words (R61 to R63, R78) -/

/-- The row a word-aligned write selects, the row with the wider mask first (R78): the seven registers of R82, the two
windows, and the fall-back WR32. -/
def decodeWrite (off : BitVec 14) (v : Word) : Instr :=
  if off = 0x008 then .wr32Ctrl v
  else if off = 0x00C then .wr32Status v
  else if off = 0x010 then .wr32Cmd v
  else if off = 0x018 then .wr32PwLen v
  else if off = 0x01C then .wr32SaltLen v
  else if off = 0x020 then .wr32OutLen v
  else if off = 0x024 then .wr32Rounds v
  else if off.extractLsb' 12 2 = 1 then .wr32Pwbuf (off.extractLsb' 2 10) v
  else if off.extractLsb' 12 2 = 2 then .wr32Saltbuf (off.extractLsb' 2 10) v
  else .wr32 off v

/-- A HOSTBUS15 item: bit 14 is the direction, bits 13:0 the offset (R78). -/
def decodeBus (bits : BitVec 15) (v : Word) : Decoded :=
  let off := bits.extractLsb' 0 14
  if off.extractLsb' 0 2 ≠ 0 then .reject .misaligned
  else if bits.extractLsb' 14 1 = 0 then .ok (.rd32 off)
  else .ok (decodeWrite off v)

/-- A command word (R61 to R63): four legal values, every other word illegal. -/
def decodeCmd (w : Word) : Instr :=
  if w.extractLsb' 4 28 ≠ 0 then .cmdIllegal w
  else if w.extractLsb' 0 4 = 0x0 then .nop
  else if w.extractLsb' 0 4 = 0x1 then .start
  else if w.extractLsb' 0 4 = 0x2 then .abort
  else if w.extractLsb' 0 4 = 0x3 then .zeroize
  else .cmdIllegal w

/-! ### Port requests (R71 to R74) -/

/-- The payload bytes of SHA_UPDATE from the beats after the header, n bytes still to come (R71): eight lanes a beat, the
lanes past the end 0, `last` on the final beat only. -/
def payloadBytes : Nat → List SBeat → Option (List Byte)
  | 0, [] => some []
  | n + 1, .payload d last :: rest =>
    if n + 1 ≤ 8 then
      if last ∧ rest = [] ∧ d.toNat / 256 ^ (n + 1) = 0 then some (natToLanes (n + 1) d.toNat) else none
    else if last then none
    else (payloadBytes (n + 1 - 8) rest).map (natToLanes 8 d.toNat ++ ·)
  | _, _ => none

/-- A request on port S (R71, R72). -/
def decodePortS : List SBeat → Decoded
  | .header op len data last :: rest =>
    if op = 0x2 then
      match payloadBytes len.toNat rest with
      | some p => if data = 0 ∧ last = false ∧ len ≠ 0 ∧ p.length ≤ 4100 then .ok (.shaUpdate p) else .reject .malformedRequest
      | none => .reject .malformedRequest
    else if op = 0x0 ∨ 0x5 ≤ op.toNat then .reject (.reservedPortOp op)
    else if ¬ (data = 0 ∧ len = 0 ∧ last = true ∧ rest = []) then .reject .malformedRequest
    else if op = 0x1 then .ok .shaInit
    else if op = 0x3 then .ok .shaFinal
    else .ok .shaClear
  | _ => .reject .malformedRequest

/-- Sixty-four zero bytes: an operand the opcode does not use (R73, R119). -/
def zero64 : Bytes64 := Vector.replicate 64 0

/-- Thirty-two zero bytes. -/
def zero32 : Bytes32 := Vector.replicate 32 0

/-- Eight zero words: an operand the opcode does not use (R73, R119). -/
def zeroW : Words8 := Vector.replicate 8 0

/-- A request on port B (R73, R74): operands the opcode does not use are 0. -/
def decodePortB (r : BReq) : Decoded :=
  if r.op = 0x1 then
    if r.a = zero64 ∧ r.k = zero64 ∧ r.w = zeroW then .ok .bfInit else .reject .malformedRequest
  else if r.op = 0x2 then
    if r.w = zeroW then .ok (.bfExpand r.a r.k) else .reject .malformedRequest
  else if r.op = 0x3 then
    if r.k = zero64 ∧ r.w = zeroW then .ok (.bfExpand0 r.a) else .reject .malformedRequest
  else if r.op = 0x4 then
    if r.a = zero64 ∧ r.k = zero64 then .ok (.bfEncrypt r.w) else .reject .malformedRequest
  else if r.op = 0x5 then
    if r.a = zero64 ∧ r.k = zero64 ∧ r.w = zeroW then .ok .bfClear else .reject .malformedRequest
  else .reject (.reservedPortOp r.op)

/-! ### The decoder -/

/-- The instruction of an encoded item (R60, R78), total: what is no row is rejected by name. -/
def decode : Item → Decoded
  | .bus bits v => decodeBus bits v
  | .cmd w => .ok (decodeCmd w)
  | .state c =>
    match SeqState.ofCode c with
    | some st => .ok st.instr
    | none => .reject (.reservedState c)
  | .portS beats => decodePortS beats
  | .portB r => decodePortB r

/-! ### The encoder -/

/-- The HOSTBUS15 bits of a read at off. -/
def busRead (off : BitVec 14) : BitVec 15 := 0#1 ++ off

/-- The HOSTBUS15 bits of a write at off. -/
def busWrite (off : BitVec 14) : BitVec 15 := 1#1 ++ off

/-- A request of one header beat (R71): no payload, so `last` is 1. -/
def headerOnly (op : BitVec 4) : List SBeat := [.header op 0 0 true]

/-- The payload beats of a byte sequence (R71), at most the given number of them: eight bytes a beat, the first in the
lowest lane, the lanes past the end 0, `last` on the final beat only. -/
def payloadBeats : Nat → List Byte → List SBeat
  | 0, _ => []
  | _, [] => []
  | fuel + 1, p => .payload (BitVec.ofNat 64 (lanesToNat (p.take 8))) (decide (p.length ≤ 8)) :: payloadBeats fuel (p.drop 8)

/-- The beats of SHA_UPDATE(p) (R71): the header with the payload length, then ceil(len(p) / 8) payload beats. -/
def updateBeats (p : List Byte) : List SBeat :=
  .header 0x2 (BitVec.ofNat 13 p.length) 0 (decide (p.length = 0)) :: payloadBeats ((p.length + 7) / 8) p

/-- The encoded item of an instruction (R61, R70 to R74, R78). -/
def encode : Instr → Item
  | .rd32 off => .bus (busRead off) 0
  | .wr32 off v => .bus (busWrite off) v
  | .wr32Ctrl v => .bus (busWrite 0x008) v
  | .wr32Status v => .bus (busWrite 0x00C) v
  | .wr32Cmd w => .bus (busWrite 0x010) w
  | .wr32PwLen v => .bus (busWrite 0x018) v
  | .wr32SaltLen v => .bus (busWrite 0x01C) v
  | .wr32OutLen v => .bus (busWrite 0x020) v
  | .wr32Rounds v => .bus (busWrite 0x024) v
  | .wr32Pwbuf k v => .bus (busWrite (1#2 ++ k ++ 0#2)) v
  | .wr32Saltbuf k v => .bus (busWrite (2#2 ++ k ++ 0#2)) v
  | .nop => .cmd 0x00000000
  | .start => .cmd 0x00000001
  | .abort => .cmd 0x00000002
  | .zeroize => .cmd 0x00000003
  | .cmdIllegal w => .cmd w
  | .stateIdle => .state 0x00
  | .stateCheck => .state 0x01
  | .statePhInit => .state 0x02
  | .statePhUpd => .state 0x03
  | .statePhFin => .state 0x04
  | .stateSsInit => .state 0x05
  | .stateSsUpd => .state 0x06
  | .stateSsFin => .state 0x07
  | .stateBhInit => .state 0x08
  | .stateBhExp => .state 0x09
  | .stateBhE0s => .state 0x0A
  | .stateBhE0p => .state 0x0B
  | .stateBhLdc => .state 0x0C
  | .stateBhEnc => .state 0x0D
  | .stateBhSer => .state 0x0E
  | .stateBhClr => .state 0x0F
  | .stateAcc => .state 0x10
  | .stateRhInit => .state 0x11
  | .stateRhUpd => .state 0x12
  | .stateRhFin => .state 0x13
  | .stateDist => .state 0x14
  | .stateFinSclr => .state 0x15
  | .stateFinZero => .state 0x16
  | .stateErrSclr => .state 0x17
  | .stateErrBclr => .state 0x18
  | .stateErrZero => .state 0x19
  | .shaInit => .portS (headerOnly 0x1)
  | .shaUpdate p => .portS (updateBeats p)
  | .shaFinal => .portS (headerOnly 0x3)
  | .shaClear => .portS (headerOnly 0x4)
  | .bfInit => .portB { op := 0x1, a := zero64, k := zero64, w := zeroW }
  | .bfExpand a k => .portB { op := 0x2, a := a, k := k, w := zeroW }
  | .bfExpand0 a => .portB { op := 0x3, a := a, k := zero64, w := zeroW }
  | .bfEncrypt w => .portB { op := 0x4, a := zero64, k := zero64, w := w }
  | .bfClear => .portB { op := 0x5, a := zero64, k := zero64, w := zeroW }

/-! ### The table's words -/

/-- The item an opcode-table word of nbits bits stands for, every operand word above it 0. The width tells the format
(R78): 15 or 16 bits HOSTBUS15, 32 bits CMD32, 5 or 8 bits STATE5, 4 bits the opcode of a port request, port S where R72
has the opcode and port B for 0x5. A word of 8 bits does not say which of the three narrow formats it is of: it is read as
STATE5 (assumption 3). A port word has no payload and no operands: the 4-bit word 0x2 is a SHA_UPDATE header alone, which is
malformed, so it decodes to none (DESIGN CHOICE, assumption 3, safe). -/
def tableItem (nbits w : Nat) : Option Item :=
  if nbits = 15 ∨ nbits = 16 then (if w < 2 ^ 15 then some (.bus (BitVec.ofNat 15 w) 0) else none)
  else if nbits = 32 then (if w < 2 ^ 32 then some (.cmd (BitVec.ofNat 32 w)) else none)
  else if nbits = 5 ∨ nbits = 8 then (if w < 2 ^ 5 then some (.state (BitVec.ofNat 5 w)) else none)
  else if nbits = 4 then
    if w < 5 then some (.portS (headerOnly (BitVec.ofNat 4 w)))
    else if w < 16 then some (.portB { op := BitVec.ofNat 4 w, a := zero64, k := zero64, w := zeroW })
    else none
  else none

/-- The instruction the decoder reads from a word of the opcode table. -/
def decodeTableWord (nbits w : Nat) : Option Instr :=
  match tableItem nbits w with
  | some it => (decode it).toInstr
  | none => none

end Sys2Proof
end

