-- ==== Sys2Proof/Machine/State.lean ====
section
/-! DEFINITION. The state of the block and of the agents around it, as plain data (spec/10_state.md), the reasons a step
can stop, and the state right after reset (spec/70_reset_and_hazards.md R210). -/

namespace Sys2Proof.Machine

/-- The bytes of the three buffers, keyed by their window offset from BKDF_BASE: PWBUF byte i at 0x1000 + i, SALTBUF byte
i at 0x2000 + i, OUTBUF byte i at 0x3000 + i (spec/20_memory.md R41, R44 to R47, spec/10_state.md R26). An unlisted byte is
0, the reset value of R26 (assumption 11). -/
abbrev Memory := List Host.Cell

/-- The canonical form of a memory: addresses strictly rising, no byte listed that equals an unlisted one. -/
abbrev Memory.wf (m : Memory) : Prop :=
  m.Pairwise (fun c d => c.1 < d.1) ∧ ∀ c ∈ m, c.2 ≠ 0

/-- Reasons for a stop at a byte the spec says does not exist. No run reaches one: CHECK bounds every length
(spec/42 R121; DESIGN CHOICE, assumption 12). -/
inductive Fault where
  /-- Raised by PH_UPD where PW_LEN is above PW_MAX: PWBUF has no such byte (R26, R127). Safe: the model stops where the
  spec names no byte. -/
  | pwbufRange
  /-- Raised by SS_UPD where SALT_LEN is above SALT_MAX: SALTBUF has no such byte (R26, R161). Safe, as above. -/
  | saltbufRange
  /-- Raised by DIST where AMT is above 32 or OUT_LEN above 1024: BLOCK or OUTBUF may have no such byte (R24, R26, R167).
  Safe, as above. -/
  | distRange
deriving DecidableEq, Repr

/-- Reasons why there is no meaning to execute. -/
inductive Refusal where
  /-- An instruction that has no meaning in this model, named by its mnemonic. Raised by an arm of `exec` only. Safe. -/
  | notModelled (mnemonic : String)
  /-- Raised by an engine's answer step where the accepted request is none of R72 or R74. The block never issues one (I13),
  and the engine's answer to it is out of the spec's scope (assumption 12). Safe. -/
  | undefinedRequest (r : Reject)
deriving DecidableEq, Repr

/-- The state. The first group is the block's (spec/10_state.md R11 to R26 and the port slots of spec/41 R101 to R104), the
second the collaborators' (R27), the third the model's own (assumptions 1, 4, 5). -/
structure State where
  -- configuration registers (R11 to R14)
  pwLen : Word
  saltLen : Word
  outLen : Word
  rounds : Word
  -- CTRL (R15)
  ieDone : Bool
  ieErr : Bool
  -- the stored flags of STATUS (R16); BUSY and IRQ are derived
  done : Bool
  err : Bool
  cmdErr : Bool
  wErr : Bool
  abortP : Bool
  -- ERRCODE (R17)
  errCode : Word
  -- STATE (R20) and OUTSTANDING (R21)
  st : SeqState
  outstanding : Bool
  -- the counters (R22)
  blkCnt : Word
  rndCnt : Word
  stride : BitVec 6
  amt : BitVec 6
  remain : BitVec 11
  iter : BitVec 6
  -- the working registers (R23 to R25)
  pd : Bytes64
  sd : Bytes64
  block : Bytes32
  prev : Bytes32
  cw : Words8
  -- PWBUF, SALTBUF and OUTBUF (R26)
  mem : Memory
  -- the request and response slots of the two ports, an empty list or none for an empty slot (R101 to R104)
  sReq : List SBeat
  sRsp : Option SRsp
  bReq : Option BReq
  bRsp : Option BRsp
  -- the collaborators: the request each has accepted and not yet answered, and its context (R27, R106, R107)
  sAcc : List SBeat
  mu : Mu
  bAcc : Option BReq
  sigma : Sigma
  -- the response on the host bus to the latest access (R43, R81)
  busRsp : BusRsp
  -- the parameters of the instance, which no step changes (R5)
  params : Params
  -- what comes next, oldest first; where the list is empty the next event is a free value (R52)
  agenda : List Event
  -- the error bit drawn for the answer in progress (R108)
  errDraw : Bool
  -- how many free values have been drawn
  drawn : Nat
deriving DecidableEq, Repr

/-- The machine right after reset, for any parameters: every register and buffer of R11 to R26 zero, STATE = IDLE,
OUTSTANDING = 0, the slots empty (R31, R210). The collaborators' contexts are CLEARED (DESIGN CHOICE, assumption 6: the spec
gives none, I9). -/
def State.resetWith (p : Params) : State :=
  { pwLen := 0, saltLen := 0, outLen := 0, rounds := 0
    ieDone := false, ieErr := false
    done := false, err := false, cmdErr := false, wErr := false, abortP := false
    errCode := 0
    st := .idle, outstanding := false
    blkCnt := 0, rndCnt := 0, stride := 0, amt := 0, remain := 0, iter := 0
    pd := zero64, sd := zero64, block := zero32, prev := zero32, cw := zeroW
    mem := []
    sReq := [], sRsp := none, bReq := none, bRsp := none
    sAcc := [], mu := .cleared, bAcc := none, sigma := .cleared
    busRsp := .idle
    params := p
    agenda := [], errDraw := false, drawn := 0 }

/-- The machine right after reset, with the reference parameters of R5 (assumption 2). -/
def State.reset : State := State.resetWith Params.reference

end Sys2Proof.Machine
end

