-- ==== Sys2Proof/Machine/Flags.lean ====
section
/-! DEFINITION. The register words and the derived signals: STATUS, ERRCODE, CTRL, GEOM, FSM and PARAM
(spec/30_encoding.md R64 to R69), BUSY, `irq` (spec/60_exceptions.md R199), and the INFO bits of CHECK (spec/42 R121). -/

namespace Sys2Proof.Machine

/-- A flag at bit k of a 32-bit word. -/
def bitAt (b : Bool) (k : Nat) : Word := if b then BitVec.ofNat 32 (2 ^ k) else 0

/-- BUSY: 1 exactly when STATE is not IDLE (R16). -/
def State.busy (s : State) : Bool := decide (s.st ≠ .idle)

/-- The level of the interrupt output (R199). -/
def State.irq (s : State) : Bool := (s.done && s.ieDone) || (s.err && s.ieErr)

/-- The word a read of STATUS returns (R65). -/
def State.statusWord (s : State) : Word :=
  bitAt s.busy 0 ||| bitAt s.done 1 ||| bitAt s.err 2 ||| bitAt s.cmdErr 3 ||| bitAt s.wErr 4 ||| bitAt s.irq 5 |||
    bitAt s.abortP 6

/-- The word a read of CTRL returns (R64). -/
def State.ctrlWord (s : State) : Word := bitAt s.ieDone 0 ||| bitAt s.ieErr 1

/-- The word a read of GEOM returns (R67). -/
def State.geomWord (s : State) : Word :=
  (s.remain.setWidth 32 <<< 16) ||| (s.amt.setWidth 32 <<< 8) ||| s.stride.setWidth 32

/-- The word a read of FSM returns (R68). -/
def State.fsmWord (s : State) : Word :=
  (s.iter.setWidth 32 <<< 16) ||| bitAt s.outstanding 8 ||| s.st.code.setWidth 32

/-- ID (R69). -/
def idWord : Word := 0x424B4446

/-- VERSION (R69). -/
def versionWord : Word := 0x00010000

/-- The word a read of PARAM returns (R69). -/
def State.paramWord (s : State) : Word :=
  (BitVec.ofNat 32 s.params.saltMax <<< 16) ||| BitVec.ofNat 32 s.params.pwMax

/-- The error codes of a run (R187). -/
inductive ErrKind where
  | invalidParameter | shaFault | bfFault | aborted
deriving DecidableEq, Repr

/-- ERRCODE.CODE (R187). -/
def ErrKind.code : ErrKind → BitVec 4
  | .invalidParameter => 1
  | .shaFault => 2
  | .bfFault => 3
  | .aborted => 4

/-- The word the error entry writes to ERRCODE (R66, R186). -/
def errCodeWord (e : ErrKind) (info : BitVec 8) (f : SeqState) : Word :=
  e.code.setWidth 32 ||| (info.setWidth 32 <<< 8) ||| (f.code.setWidth 32 <<< 16)

/-- A flag at bit k of INFO. -/
def infoAt (b : Bool) (k : Nat) : BitVec 8 := if b then BitVec.ofNat 8 (2 ^ k) else 0

/-- INFO of CHECK: one bit per failed condition, all seven evaluated (R121, R122). -/
def State.checkInfo (s : State) : BitVec 8 :=
  infoAt (s.rounds == 0) 0 ||| infoAt (s.pwLen == 0) 1 ||| infoAt (s.saltLen == 0) 2 ||| infoAt (s.outLen == 0) 3 |||
    infoAt (decide (1024 < s.outLen.toNat)) 4 ||| infoAt (decide (s.params.pwMax < s.pwLen.toNat)) 5 |||
    infoAt (decide (s.params.saltMax < s.saltLen.toNat)) 6

/-- The read data the bus returns for the latest access: the word of a read, and zero with every other response (R43). -/
def readData : BusRsp → Word
  | .data v => v
  | .idle | .written | .busError => 0

/-- STATUS after a host write of v: the W1C bits (R65, R85). -/
def State.clearFlags (v : Word) (s : State) : State :=
  { s with
    done := s.done && !v.getLsbD 1
    err := s.err && !v.getLsbD 2
    cmdErr := s.cmdErr && !v.getLsbD 3
    wErr := s.wErr && !v.getLsbD 4 }

end Sys2Proof.Machine
end

