-- ==== Sys2Proof/Machine/Operands.lean ====
section
/-! DEFINITION. The operands the block assembles (spec/30_encoding.md R76), the constant and its load (spec/43 R145), the
serialisation of CW (R147), and the signals of the two ports (R71, R73, R105, R119). -/

namespace Sys2Proof.Machine

/-- The first offset of each buffer's window (spec/20_memory.md R45 to R47). -/
def pwBase : Nat := 0x1000
def saltBase : Nat := 0x2000
def outBase : Nat := 0x3000

/-- The number of bytes of OUTBUF (spec/10_state.md R26). -/
def outBytes : Nat := 1024

/-- The byte at a window offset, 0 where none is listed (R26). -/
def memRead : Memory → Nat → Byte
  | [], _ => 0
  | (a, b) :: m, x => if x = a then b else memRead m x

/-- n bytes from a window offset on. -/
def memBytes (m : Memory) (a n : Nat) : List Byte := (List.range n).map (fun i => memRead m (a + i))

/-- `PWBUF[0..PW_LEN)` (R76, R127). -/
def State.password (s : State) : List Byte := memBytes s.mem pwBase s.pwLen.toNat

/-- `SALTBUF[0..SALT_LEN)` (R76, R161). -/
def State.salt (s : State) : List Byte := memBytes s.mem saltBase s.saltLen.toNat

/-- `SALTBUF[0..SALT_LEN) ++ BE32(BLKCNT)` (R76, R161). -/
def State.blockSalt (s : State) : List Byte := s.salt ++ be32 s.blkCnt

/-- CONST, the 32 ASCII bytes "OxychromaticBlowfishSwatDynamite" (spec/00_scope.md R4, R145). -/
def constBytes : List Byte :=
  [0x4F, 0x78, 0x79, 0x63, 0x68, 0x72, 0x6F, 0x6D, 0x61, 0x74, 0x69, 0x63, 0x42, 0x6C, 0x6F, 0x77,
    0x66, 0x69, 0x73, 0x68, 0x53, 0x77, 0x61, 0x74, 0x44, 0x79, 0x6E, 0x61, 0x6D, 0x69, 0x74, 0x65]

/-- CONSTW: the constant as eight words, each loaded most significant byte first (R48, R145). -/
def constW : Words8 :=
  Vector.ofFn fun j =>
    wordBE (constBytes.getD (4 * j.val) 0) (constBytes.getD (4 * j.val + 1) 0) (constBytes.getD (4 * j.val + 2) 0)
      (constBytes.getD (4 * j.val + 3) 0)

/-- Eight words as 32 bytes, each word least significant byte first: byte 4j + b is `(w[j] >> 8b) & 0xFF` (R147). -/
def serialise (w : Words8) : Bytes32 := Vector.ofFn fun t => byteOf (w[t.val / 4]) (t.val % 4)

/-- Byte-wise exclusive or (R6). -/
def xor32 (a b : Bytes32) : Bytes32 := Vector.ofFn fun t => a[t] ^^^ b[t]

/-! ### Port signals -/

/-- The beat port S drives: the next beat of the request in its slot (R71). Between requests op, len and data are 0 (R71,
R119, T4.14 of spec/95_test_vectors.md). That `s_req_last` is 0 there too is the model's choice (DESIGN CHOICE, assumption 19,
unsafe): the spec gives its level at reset only (R210). -/
def State.sReqSignals (s : State) : SBeat := s.sReq.headD (.header 0 0 0 false)

/-- `s_req_valid`: a request is in the slot (R71, R101). -/
def State.sReqValid (s : State) : Bool := decide (s.sReq ≠ [])

/-- `b_req_valid`: a request is in the slot (R73, R103). -/
def State.bReqValid (s : State) : Bool := s.bReq.isSome

/-- The request port B drives, op and the three operands 0 between requests (R73, R119, T4.14 of spec/95_test_vectors.md). -/
def State.bReqSignals (s : State) : BReq := s.bReq.getD { op := 0, a := zero64, k := zero64, w := zeroW }

/-- `b_req_a`: byte t of operand A at bits 8t+7:8t (R73). -/
def State.bReqA (s : State) : BitVec 512 := BitVec.ofNat 512 (lanesToNat s.bReqSignals.a.toList)

/-- `b_req_k`: byte t of operand K at bits 8t+7:8t (R73). -/
def State.bReqK (s : State) : BitVec 512 := BitVec.ofNat 512 (lanesToNat s.bReqSignals.k.toList)

/-- `b_req_w`: word j of operand W at bits 32j+31:32j (R73). -/
def State.bReqW (s : State) : BitVec 256 := BitVec.ofNat 256 (wordLanesToNat s.bReqSignals.w.toList)

/-- `s_rsp_ready`: asserted only while a port S request is outstanding (R105). That it is asserted all that time, also while the
slot already holds the response, is the model's choice (DESIGN CHOICE, assumption 20, unsafe): R75 and R105 do not say. -/
def State.sRspReady (s : State) : Bool := s.outstanding && decide (s.st.port = .portS)

/-- `b_rsp_ready`: asserted only while a port B request is outstanding (R105), and all that time (DESIGN CHOICE, assumption 20,
unsafe). -/
def State.bRspReady (s : State) : Bool := s.outstanding && decide (s.st.port = .portB)

end Sys2Proof.Machine
end

