-- ==== Sys2Proof/Machine/Ops.lean ====
section
/-! DEFINITION. The named operations the meanings share: the buffers, the host's register writes, issue and await on the
two ports (spec/41 R100 to R105), the error entry (spec/60 R186), the zeroisation (spec/44 R171, spec/60 R196), the
collaborators' answers (spec/41 R106 to R108) and the reset of the block (spec/70 R210). -/

namespace Sys2Proof.Machine

/-! ### The buffers -/

/-- One byte written, the canonical form kept: a zero byte is not listed. -/
def memWrite : Memory → Nat → Byte → Memory
  | [], x, v => if v = 0 then [] else [(x, v)]
  | (a, b) :: m, x, v =>
    if x < a then (if v = 0 then (a, b) :: m else (x, v) :: (a, b) :: m)
    else if x = a then (if v = 0 then m else (a, v) :: m)
    else (a, b) :: memWrite m x v

/-- The bytes from lo up to hi - 1 written with zero. -/
def memZero (m : Memory) (lo hi : Nat) : Memory := m.filter fun c => !(decide (lo ≤ c.1) && decide (c.1 < hi))

/-- Bytes written at rising offsets from a on, one each `stride` offsets. -/
def memScatter (m : Memory) (a stride : Nat) : List Byte → Memory
  | [] => m
  | b :: bs => memScatter (memWrite m a b) (a + stride) stride bs

/-- One byte lane of an input window: a lane at or past the capacity is ignored (R45). -/
def writeLane (base cap i : Nat) (b : Byte) (m : Memory) : Memory := if i < cap then memWrite m (base + i) b else m

/-- One word of an input window: lane j to byte 4k + j (R45, R91). -/
def writeWindow (base cap k : Nat) (v : Word) (m : Memory) : Memory :=
  writeLane base cap (4 * k + 3) (byteOf v 3) (writeLane base cap (4 * k + 2) (byteOf v 2)
    (writeLane base cap (4 * k + 1) (byteOf v 1) (writeLane base cap (4 * k) (byteOf v 0) m)))

/-- One word of OUTBUF, byte 4k in the lowest lane (R44, R47). -/
def readWindow (m : Memory) (k : Nat) : Word :=
  wordLE (memRead m (outBase + 4 * k)) (memRead m (outBase + (4 * k + 1))) (memRead m (outBase + (4 * k + 2)))
    (memRead m (outBase + (4 * k + 3)))

/-- `OUTBUF[i] <- 0` for every i (R88, R90, R196). -/
def State.zeroOut (s : State) : State := { s with mem := memZero s.mem outBase (outBase + outBytes) }

/-- `PWBUF[i] <- 0`, `SALTBUF[i] <- 0` for every i and `PW_LEN <- 0`, `SALT_LEN <- 0` (R90, R171, R196). -/
def State.zeroInputs (s : State) : State :=
  { s with
    mem := memZero (memZero s.mem pwBase (pwBase + s.params.pwMax)) saltBase (saltBase + s.params.saltMax)
    pwLen := 0, saltLen := 0 }

/-- Every working register and counter to zero, and the inputs (R171, R196). -/
def State.zeroSecrets (s : State) : State :=
  { s.zeroInputs with
    pd := zero64, sd := zero64, block := zero32, prev := zero32, cw := zeroW
    blkCnt := 0, rndCnt := 0, stride := 0, amt := 0, remain := 0, iter := 0 }

/-! ### The host's writes -/

/-- The write completes on the bus. -/
def State.ack (s : State) : State := { s with busRsp := .written }

/-- A write that is dropped while busy (R83, R91). -/
def State.dropWrite (s : State) : State := { s with wErr := true }

/-- A command that is rejected (R63, R88, R90). -/
def State.rejectCmd (s : State) : State := { s with cmdErr := true }

/-! ### Errors -/

/-- The error entry, `raise Fault(code) with INFO = info, FSTATE = f` (R186): ERRCODE, and the next state on the error
path. It saves nothing else, and there is no return: the run is not resumed (R197). -/
def State.raiseFault (e : ErrKind) (info : BitVec 8) (f : SeqState) (s : State) : State :=
  { s with
    errCode := errCodeWord e info f
    st := if e = .invalidParameter then .errZero else .errSclr }

/-- The three states of the error path, in which no abort is taken (R100). -/
def SeqState.onErrorPath : SeqState → Bool
  | .errSclr | .errBclr | .errZero => true
  | _ => false

/-- A pending abort is taken at this moment: a visit boundary of a running derivation outside the error path (R100, R191). -/
def State.abortDue (s : State) : Bool :=
  s.abortP && !s.outstanding && decide (s.st ≠ .idle) && !SeqState.onErrorPath s.st

/-- The abort step (R100, R191). -/
def State.takeAbort (s : State) : State := { s.raiseFault .aborted 0 s.st with abortP := false }

/-! ### The ports -/

/-- `issue S` (R101): one request into the slot, enabled only when the slot is empty. -/
def State.issueS (beats : List SBeat) (s : State) : State :=
  if s.sReq = [] then { s with sReq := beats, outstanding := true } else s

/-- `issue B` (R103): one request into the slot, enabled only when the slot is empty. -/
def State.issueB (r : BReq) (s : State) : State :=
  if s.bReq = none then { s with bReq := some r, outstanding := true } else s

/-- A visit of a port S state whose code is `here` (R100). With nothing outstanding, the issue step. With a response in
the slot, the completion step (R102), where an error answer is the fault SHA_FAULT (R189). With no response yet, the
sequencer has no step and the state stays as it is (R109). -/
def State.visitS (here : SeqState) (beats : List SBeat) (complete : Bytes64 → State → State) (s : State) : State :=
  if s.outstanding then
    match s.sRsp with
    | none => s
    | some r =>
      let t := { s with sRsp := none, outstanding := false }
      if r.err && !SeqState.onErrorPath here then t.raiseFault .shaFault 0 here else complete r.data t
  else s.issueS beats

/-- A visit of a port B state whose code is `here` (R100, R104), an error answer being BF_FAULT (R190). -/
def State.visitB (here : SeqState) (r : BReq) (complete : Words8 → State → State) (s : State) : State :=
  if s.outstanding then
    match s.bRsp with
    | none => s
    | some r =>
      let t := { s with bRsp := none, outstanding := false }
      if r.err && !SeqState.onErrorPath here then t.raiseFault .bfFault 0 here else complete r.w t
  else s.issueB r

/-! ### The collaborators -/

/-- The engine takes the whole request out of port S's slot (R101, R108), if it has answered the one before (R106): all its
beats in one step (DESIGN CHOICE, assumption 14, safe). -/
def State.acceptS (s : State) : State :=
  if s.sReq ≠ [] ∧ s.sAcc = [] then { s with sAcc := s.sReq, sReq := [] } else s

/-- The engine takes the request out of port B's slot (R103, R108), if it has answered the one before (R107). -/
def State.acceptB (s : State) : State :=
  match s.bReq, s.bAcc with
  | some r, none => { s with bAcc := some r, bReq := none }
  | _, _ => s

/-- A response offered on port S is taken into the slot only while the block is ready for it (R105). A further response to the
same request, offered while the slot still holds the first, is dropped (DESIGN CHOICE, assumption 20, unsafe). -/
def State.offerS (r : SRsp) (s : State) : State :=
  if s.sRspReady ∧ s.sRsp = none then { s with sRsp := some r } else s

/-- A response offered on port B is taken into the slot only while the block is ready for it (R105). A further response to the
same request, offered while the slot still holds the first, is dropped (DESIGN CHOICE, assumption 20, unsafe). -/
def State.offerB (r : BRsp) (s : State) : State :=
  if s.bRspReady ∧ s.bRsp = none then { s with bRsp := some r } else s

/-- The SHA-512 engine answers its accepted request: context `mu` and data `d` without an error; with one, the context is
unspecified and the data is free (R106, R108). -/
def State.answerS (mu : Mu) (d : Bytes64) (s : State) : State :=
  let t := { s with sAcc := [], mu := if s.errDraw then Config.freeMu s.drawn else mu, drawn := s.drawn + 1 }
  t.offerS { err := s.errDraw, data := if s.errDraw then Config.freeDigest s.drawn else d }

/-- The Blowfish-family engine answers its accepted request: state `sigma` and words `w` without an error; with one, the
state is unspecified and the words are free (R107, R108). -/
def State.answerB (sigma : Sigma) (w : Words8) (s : State) : State :=
  let t := { s with bAcc := none, sigma := if s.errDraw then Config.freeSigma s.drawn else sigma, drawn := s.drawn + 1 }
  t.offerB { err := s.errDraw, w := if s.errDraw then Config.freeWords s.drawn else w }

/-! ### Reset -/

/-- The reset event (R210): every register and buffer of the block zero, STATE = IDLE, the slots empty. The engines'
contexts are afterwards any value (R211, R212, I9), and no request issued before the reset is answered after it, which is
the platform's duty (R212, assumption 7). The parameters and what comes next stay. -/
def State.resetBlock (s : State) : State :=
  { State.resetWith s.params with
    mu := Config.freeMu s.drawn
    sigma := Config.freeSigma s.drawn
    agenda := s.agenda
    drawn := s.drawn + 1 }

end Sys2Proof.Machine
end

