-- ==== Sys2Proof/Machine/BcryptHash.lean ====
section
/-! DEFINITION. The round-mixing states BH_INIT to BH_CLR (spec/43_bcrypt_hash.md R141 to R148). -/

namespace Sys2Proof.Machine

/-- A request on port B with no operand (R73). -/
def bareB (op : BitVec 4) : BReq := { op := op, a := zero64, k := zero64, w := zeroW }

/-- BH_INIT: BF_INIT, then BH_EXP (R141). -/
def execStateBhInit (s : State) : Host.Outcome State Fault Refusal :=
  .next (s.visitB .bhInit (bareB 0x1) fun _ t => { t with st := .bhExp })

/-- BH_EXP: BF_EXPAND with the salt digest as A and the password digest as K, ITER <- 0, then BH_E0S (R142). -/
def execStateBhExp (s : State) : Host.Outcome State Fault Refusal :=
  .next (s.visitB .bhExp { op := 0x2, a := s.sd, k := s.pd, w := zeroW } fun _ t => { t with iter := 0, st := .bhE0s })

/-- BH_E0S: BF_EXPAND0 of the salt digest, then BH_E0P (R143). -/
def execStateBhE0s (s : State) : Host.Outcome State Fault Refusal :=
  .next (s.visitB .bhE0s { op := 0x3, a := s.sd, k := zero64, w := zeroW } fun _ t => { t with st := .bhE0p })

/-- BH_E0P: BF_EXPAND0 of the password digest, then the loop test (R144). -/
def execStateBhE0p (s : State) : Host.Outcome State Fault Refusal :=
  .next (s.visitB .bhE0p { op := 0x3, a := s.pd, k := zero64, w := zeroW } fun _ t =>
    if t.iter = 63 then { t with iter := 0, st := .bhLdc } else { t with iter := t.iter + 1, st := .bhE0s })

/-- BH_LDC: the constant into CW, then BH_ENC (R145). -/
def execStateBhLdc (s : State) : Host.Outcome State Fault Refusal := .next { s with cw := constW, st := .bhEnc }

/-- BH_ENC: BF_ENCRYPT of CW, CW <- the answer, then the loop test (R146). -/
def execStateBhEnc (s : State) : Host.Outcome State Fault Refusal :=
  .next (s.visitB .bhEnc { op := 0x4, a := zero64, k := zero64, w := s.cw } fun w t =>
    if t.iter = 63 then { t with cw := w, iter := 0, st := .bhSer } else { t with cw := w, iter := t.iter + 1, st := .bhEnc })

/-- BH_SER: CW serialised into PREV, CW <- 0, then BH_CLR (R147). -/
def execStateBhSer (s : State) : Host.Outcome State Fault Refusal :=
  .next { s with prev := serialise s.cw, cw := zeroW, st := .bhClr }

/-- BH_CLR: BF_CLEAR, then ACC (R148). -/
def execStateBhClr (s : State) : Host.Outcome State Fault Refusal :=
  .next (s.visitB .bhClr (bareB 0x5) fun _ t => { t with st := .acc })

end Sys2Proof.Machine
end

