-- ==== Sys2Proof/Machine/Driver.lean ====
section
/-! DEFINITION. The driver states SS_INIT to SS_FIN, ACC, RH_INIT to RH_FIN, DIST, FIN_SCLR and FIN_ZERO
(spec/44_pbkdf_driver.md R160 to R171). -/

namespace Sys2Proof.Machine

/-- SS_INIT: SHA_INIT, then SS_UPD (R160). -/
def execStateSsInit (s : State) : Host.Outcome State Fault Refusal :=
  .next (s.visitS .ssInit (headerOnly 0x1) fun _ t => { t with st := .ssUpd })

/-- SS_UPD: SHA_UPDATE of SALTBUF[0..SALT_LEN) ++ BE32(BLKCNT), then SS_FIN (R161). -/
def execStateSsUpd (s : State) : Host.Outcome State Fault Refusal :=
  if !s.outstanding && decide (s.params.saltMax < s.saltLen.toNat) then .fault .saltbufRange
  else .next (s.visitS .ssUpd (updateBeats s.blockSalt) fun _ t => { t with st := .ssFin })

/-- SS_FIN: SHA_FINAL, SD <- D, then BH_INIT (R162). -/
def execStateSsFin (s : State) : Host.Outcome State Fault Refusal :=
  .next (s.visitS .ssFin (headerOnly 0x3) fun d t => { t with sd := d, st := .bhInit })

/-- ACC: PREV into BLOCK in round 1, folded into it by exclusive or later; then the next round or DIST (R163). -/
def execStateAcc (s : State) : Host.Outcome State Fault Refusal :=
  let t := { s with block := if s.rndCnt = 1 then s.prev else xor32 s.block s.prev }
  if s.rndCnt < s.rounds then .next { t with rndCnt := s.rndCnt + 1, st := .rhInit } else .next { t with st := .dist }

/-- RH_INIT: SHA_INIT, then RH_UPD (R164). -/
def execStateRhInit (s : State) : Host.Outcome State Fault Refusal :=
  .next (s.visitS .rhInit (headerOnly 0x1) fun _ t => { t with st := .rhUpd })

/-- RH_UPD: SHA_UPDATE of PREV, then RH_FIN (R165). -/
def execStateRhUpd (s : State) : Host.Outcome State Fault Refusal :=
  .next (s.visitS .rhUpd (updateBeats s.prev.toList) fun _ t => { t with st := .rhFin })

/-- RH_FIN: SHA_FINAL, SD <- D, then BH_INIT (R166). -/
def execStateRhFin (s : State) : Host.Outcome State Fault Refusal :=
  .next (s.visitS .rhFin (headerOnly 0x3) fun d t => { t with sd := d, st := .bhInit })

/-- How many bytes DIST places of the `k` from index i on: it stops at the first position `i * stride + c` at or past n
(R167). -/
def placed (stride c n : Nat) : Nat → Nat → Nat
  | 0, _ => 0
  | k + 1, i => if n ≤ i * stride + c then 0 else placed stride c n k (i + 1) + 1

/-- The number of bytes DIST places in this block, at most min(AMT, REMAIN) (R167). -/
def State.distCount (s : State) : Nat :=
  placed s.stride.toNat (s.blkCnt - 1).toNat s.outLen.toNat (min s.amt.toNat s.remain.toNat) 0

/-- DIST: byte i of BLOCK to OUTBUF[i * STRIDE + (BLKCNT - 1)], REMAIN less the bytes placed, then FIN_SCLR or the next
block (R167). -/
def execStateDist (s : State) : Host.Outcome State Fault Refusal :=
  if 32 < s.amt.toNat ∨ outBytes < s.outLen.toNat then .fault .distRange
  else
    let w := s.distCount
    let t :=
      { s with
        mem := memScatter s.mem (outBase + (s.blkCnt - 1).toNat) s.stride.toNat (s.block.toList.take w)
        remain := BitVec.ofNat 11 (s.remain.toNat - w) }
    if s.remain.toNat - w = 0 then .next { t with st := .finSclr }
    else .next { t with blkCnt := s.blkCnt + 1, rndCnt := 1, st := .ssInit }

/-- FIN_SCLR: SHA_CLEAR, then FIN_ZERO (R170). -/
def execStateFinSclr (s : State) : Host.Outcome State Fault Refusal :=
  .next (s.visitS .finSclr (headerOnly 0x4) fun _ t => { t with st := .finZero })

/-- FIN_ZERO: every secret zeroed, DONE set, ABORTP cleared, STATE IDLE (R171). -/
def execStateFinZero (s : State) : Host.Outcome State Fault Refusal :=
  .next { s.zeroSecrets with done := true, abortP := false, st := .idle }

end Sys2Proof.Machine
end

