-- ==== Sys2Proof/Machine/ErrorPath.lean ====
section
/-! DEFINITION. The states of the error path, ERR_SCLR, ERR_BCLR and ERR_ZERO (spec/60_exceptions.md R194 to R196). -/

namespace Sys2Proof.Machine

/-- ERR_SCLR: SHA_CLEAR, an error answer ignored, then ERR_BCLR (R194). -/
def execStateErrSclr (s : State) : Host.Outcome State Fault Refusal :=
  .next (s.visitS .errSclr (headerOnly 0x4) fun _ t => { t with st := .errBclr })

/-- ERR_BCLR: BF_CLEAR, an error answer ignored, then ERR_ZERO (R195). -/
def execStateErrBclr (s : State) : Host.Outcome State Fault Refusal :=
  .next (s.visitB .errBclr (bareB 0x5) fun _ t => { t with st := .errZero })

/-- ERR_ZERO: every secret and OUTBUF zeroed, ERR set, ABORTP cleared, STATE IDLE (R196). -/
def execStateErrZero (s : State) : Host.Outcome State Fault Refusal :=
  .next { s.zeroSecrets.zeroOut with err := true, abortP := false, st := .idle }

end Sys2Proof.Machine
end

