-- ==== Sys2Proof/Machine/Commands.lean ====
section
/-! DEFINITION. The meanings of the command words (spec/40_host_commands.md R86 to R90, spec/30_encoding.md R63). -/

namespace Sys2Proof.Machine

/-- NOP: no effect, in any state (R87). -/
def execNop (s : State) : Host.Outcome State Fault Refusal := .next s

/-- START: while busy a rejected command. While idle DONE, ERR, ABORTP and ERRCODE cleared, OUTBUF zeroed, STATE CHECK
(R88). -/
def execStart (s : State) : Host.Outcome State Fault Refusal :=
  if s.busy then .next s.rejectCmd
  else .next { s.zeroOut with done := false, err := false, abortP := false, errCode := 0, st := .check }

/-- ABORT: while busy ABORTP is set, while idle no effect (R89). -/
def execAbort (s : State) : Host.Outcome State Fault Refusal :=
  if s.busy then .next { s with abortP := true } else .next s

/-- ZEROIZE: while busy a rejected command. While idle OUTBUF, PWBUF, SALTBUF and both lengths zeroed, DONE cleared
(R90). -/
def execZeroize (s : State) : Host.Outcome State Fault Refusal :=
  if s.busy then .next s.rejectCmd else .next { s.zeroOut.zeroInputs with done := false }

/-- An illegal command word sets CMDERR and does nothing else, in any state (R63, R86). -/
def execCmdIllegal (_w : Word) (s : State) : Host.Outcome State Fault Refusal := .next s.rejectCmd

end Sys2Proof.Machine
end

