-- ==== Sys2Proof/Machine/HostBus.lean ====
section
/-! DEFINITION. The meanings of the host bus operations (spec/40_host_commands.md R80 to R86, R91, R92). A legal access is
assumed: the error response of spec/20_memory.md R43 is given before (Sys2Proof/Machine/Agents.lean). -/

namespace Sys2Proof.Machine

/-- The word at an offset, as R81 lists it. Every offset not listed reads as zero (R41). -/
def State.readWord (off : BitVec 14) (s : State) : Word :=
  if off = 0x000 then idWord
  else if off = 0x004 then versionWord
  else if off = 0x008 then s.ctrlWord
  else if off = 0x00C then s.statusWord
  else if off = 0x014 then s.errCode
  else if off = 0x018 then s.pwLen
  else if off = 0x01C then s.saltLen
  else if off = 0x020 then s.outLen
  else if off = 0x024 then s.rounds
  else if off = 0x028 then s.blkCnt
  else if off = 0x02C then s.rndCnt
  else if off = 0x030 then s.geomWord
  else if off = 0x034 then s.fsmWord
  else if off = 0x038 then s.paramWord
  else if 0x3000 ≤ off.toNat ∧ off.toNat < 0x3400 then
    if s.busy then 0 else readWindow s.mem ((off.toNat - 0x3000) / 4)
  else 0

/-- RD32: the word at the offset on the bus, and no other effect (R81, R51). -/
def execRd32 (off : BitVec 14) (s : State) : Host.Outcome State Fault Refusal :=
  .next { s with busRsp := .data (s.readWord off) }

/-- WR32 to an offset with no write rule: no effect, no flag (R92). -/
def execWr32 (_off : BitVec 14) (_v : Word) (s : State) : Host.Outcome State Fault Refusal := .next s.ack

/-- CTRL write, in any state (R84). -/
def execWr32Ctrl (v : Word) (s : State) : Host.Outcome State Fault Refusal :=
  .next { s.ack with ieDone := v.getLsbD 0, ieErr := v.getLsbD 1 }

/-- STATUS write, in any state: write 1 to clear (R85). -/
def execWr32Status (v : Word) (s : State) : Host.Outcome State Fault Refusal := .next (s.ack.clearFlags v)

/-- Command decode (R86): the command word's own meaning. -/
def execWr32Cmd (w : Word) (s : State) : Host.Outcome State Fault Refusal :=
  if w.extractLsb' 4 28 ≠ 0 then execCmdIllegal w s.ack
  else if w.extractLsb' 0 4 = 0x0 then execNop s.ack
  else if w.extractLsb' 0 4 = 0x1 then execStart s.ack
  else if w.extractLsb' 0 4 = 0x2 then execAbort s.ack
  else if w.extractLsb' 0 4 = 0x3 then execZeroize s.ack
  else execCmdIllegal w s.ack

/-- PW_LEN write: held while idle, dropped with WERR while busy (R83). -/
def execWr32PwLen (v : Word) (s : State) : Host.Outcome State Fault Refusal :=
  if s.busy then .next s.ack.dropWrite else .next { s.ack with pwLen := v }

/-- SALT_LEN write (R83). -/
def execWr32SaltLen (v : Word) (s : State) : Host.Outcome State Fault Refusal :=
  if s.busy then .next s.ack.dropWrite else .next { s.ack with saltLen := v }

/-- OUT_LEN write (R83). -/
def execWr32OutLen (v : Word) (s : State) : Host.Outcome State Fault Refusal :=
  if s.busy then .next s.ack.dropWrite else .next { s.ack with outLen := v }

/-- ROUNDS write (R83). -/
def execWr32Rounds (v : Word) (s : State) : Host.Outcome State Fault Refusal :=
  if s.busy then .next s.ack.dropWrite else .next { s.ack with rounds := v }

/-- PWBUF window write: the lanes below PW_MAX while idle, dropped with WERR while busy (R91). -/
def execWr32Pwbuf (k : BitVec 10) (v : Word) (s : State) : Host.Outcome State Fault Refusal :=
  if s.busy then .next s.ack.dropWrite
  else .next { s.ack with mem := writeWindow pwBase s.params.pwMax k.toNat v s.mem }

/-- SALTBUF window write: the lanes below SALT_MAX while idle, dropped with WERR while busy (R91). -/
def execWr32Saltbuf (k : BitVec 10) (v : Word) (s : State) : Host.Outcome State Fault Refusal :=
  if s.busy then .next s.ack.dropWrite
  else .next { s.ack with mem := writeWindow saltBase s.params.saltMax k.toNat v s.mem }

end Sys2Proof.Machine
end

