-- ==== Sys2Proof/Machine/Blowfish.lean ====
section
/-! DEFINITION. The standard instantiation of the Blowfish-family engine, spec/93_implementation_defined.md I12: an
informative choice of the four OPEN functions of spec/41 R107, not part of the block (spec/00_scope.md R3). The state is the
list of 1042 words P[0..17], S0, S1, S2, S3. -/

namespace Sys2Proof.Machine.Blowfish

/-- How many fractional bits of π are computed: those of 1042 words and 128 more, so that the last word is not touched by
rounding. -/
def piBits : Nat := 32 * 1042 + 128

/-- The alternating tail of arctan(1/x), scaled: `term` is scale / x^(2k+1) at the k-th step. -/
def arctanTail (x2 : Nat) : Nat → Nat → Nat → Int
  | 0, _, _ => 0
  | fuel + 1, k, term =>
    if term = 0 then 0
    else
      (if k % 2 = 0 then Int.ofNat (term / (2 * k + 1)) else -Int.ofNat (term / (2 * k + 1))) +
        arctanTail x2 fuel (k + 1) (term / x2)

/-- arctan(1/x) scaled by 2^piBits. -/
def arctanInv (x : Nat) : Int := arctanTail (x * x) piBits 0 (2 ^ piBits / x)

/-- π scaled by 2^piBits, by Machin's formula π = 16 arctan(1/5) - 4 arctan(1/239). -/
def scaledPi : Nat := (16 * arctanInv 5 - 4 * arctanInv 239).toNat

/-- The first 1042 32-bit words of the hexadecimal expansion of the fractional part of π (I12, "bf_init"). -/
def piWords : List Word :=
  let p := scaledPi
  (List.range 1042).map fun i => BitVec.ofNat 32 (p / 2 ^ (piBits - 32 * (i + 1)))

/-- The words of the state, P first. -/
abbrev Tab := Array Word

/-- F(x), with S0 at word 18 and the tables 256 words each. -/
def mix (t : Tab) (x : Word) : Word :=
  ((t.getD (18 + (byteOf x 3).toNat) 0 + t.getD (274 + (byteOf x 2).toNat) 0) ^^^ t.getD (530 + (byteOf x 1).toNat) 0) +
    t.getD (786 + (byteOf x 0).toNat) 0

/-- n of the eight double rounds of encipher, from P[i] on. -/
def doubleRounds (t : Tab) : Nat → Nat → Word × Word → Word × Word
  | 0, _, lr => lr
  | n + 1, i, (l, r) =>
    let r := r ^^^ mix t l ^^^ t.getD i 0
    let l := l ^^^ mix t r ^^^ t.getD (i + 1) 0
    doubleRounds t n (i + 2) (l, r)

/-- encipher(L, R). -/
def encipher (t : Tab) (l r : Word) : Word × Word :=
  let (l, r) := doubleRounds t 8 1 (l ^^^ t.getD 0 0, r)
  (r ^^^ t.getD 17 0, l)

/-- stream2word over the 64 bytes of an operand, the cursor in bytes. -/
def streamWord (d : Bytes64) (j : Nat) : Word :=
  wordBE (d.toArray.getD (j % 64) 0) (d.toArray.getD ((j + 1) % 64) 0) (d.toArray.getD ((j + 2) % 64) 0)
    (d.toArray.getD ((j + 3) % 64) 0)

/-- P[i] <- P[i] xor the next key word, for the n entries from i on. -/
def mixKey (k : Bytes64) : Nat → Nat → Tab → Tab
  | 0, _, t => t
  | n + 1, i, t => mixKey k n (i + 1) (t.setIfInBounds i (t.getD i 0 ^^^ streamWord k (4 * i)))

/-- n pairs of entries from i on replaced by the running encipherment, the data operand read from cursor j on where there
is one. P and the four tables are one run: the cursor runs on through them, and each write is seen by the next encipher. -/
def rekey (data : Option Bytes64) : Nat → Nat → Nat → Word × Word → Tab → Tab
  | 0, _, _, _, t => t
  | n + 1, i, j, (l, r), t =>
    let l := match data with | some a => l ^^^ streamWord a j | none => l
    let r := match data with | some a => r ^^^ streamWord a (j + 4) | none => r
    let (l, r) := encipher t l r
    rekey data n (i + 2) (j + 8) (l, r) ((t.setIfInBounds i l).setIfInBounds (i + 1) r)

/-- bf_expand(σ, A, K). -/
def expand (s : List Word) (a k : Bytes64) : List Word :=
  (rekey (some a) 521 0 0 (0, 0) (mixKey k 18 0 s.toArray)).toList

/-- bf_expand0(σ, K). -/
def expand0 (s : List Word) (k : Bytes64) : List Word :=
  (rekey none 521 0 0 (0, 0) (mixKey k 18 0 s.toArray)).toList

/-- bf_encrypt(σ, w): four independent blocks. -/
def encrypt (s : List Word) (w : Words8) : Words8 :=
  let t := s.toArray
  let b0 := encipher t w[0] w[1]
  let b1 := encipher t w[2] w[3]
  let b2 := encipher t w[4] w[5]
  let b3 := encipher t w[6] w[7]
  #v[b0.1, b0.2, b1.1, b1.2, b2.1, b2.2, b3.1, b3.2]

end Sys2Proof.Machine.Blowfish
end

