-- ==== Sys2Proof/Machine/Sha512.lean ====
section
/-! DEFINITION. The function `sha512` of spec/41 R106: "the standard FIPS SHA-512" (spec/00_scope.md R5), which the spec names
and does not define. PRESUMED from FIPS 180-4 (assumption 8), its constants computed from the roots they are the fractions of.
The vectors V2 and V3 of spec/95_test_vectors.md agree (V2 in Sys2Proof/Tests/Slice0.lean). -/

namespace Sys2Proof.Machine.Sha512

/-- One 64-bit word of SHA-512. -/
abbrev Word64 := BitVec 64

/-! ### The constants, computed from what they are -/

/-- The first eighty prime numbers. -/
def primes : List Nat :=
  [2, 3, 5, 7, 11, 13, 17, 19, 23, 29, 31, 37, 41, 43, 47, 53, 59, 61, 67, 71, 73, 79, 83, 89, 97, 101, 103,
    107, 109, 113, 127, 131, 137, 139, 149, 151, 157, 163, 167, 173, 179, 181, 191, 193, 197, 199, 211, 223,
    227, 229, 233, 239, 241, 251, 257, 263, 269, 271, 277, 281, 283, 293, 307, 311, 313, 317, 331, 337, 347,
    349, 353, 359, 367, 373, 379, 383, 389, 397, 401, 409]

/-- The greatest r below 2^bits with r^k ≤ n, one binary digit a step: twice the root of n / 2^k, or one more. -/
def root (k : Nat) : Nat → Nat → Nat
  | 0, _ => 0
  | bits + 1, n =>
    let r := 2 * root k bits (n / 2 ^ k)
    if (r + 1) ^ k ≤ n then r + 1 else r

/-- The first 64 bits of the fractional part of the k-th root of p, for a root below 8. -/
def rootFraction (k p : Nat) : Word64 := BitVec.ofNat 64 (root k 67 (p * 2 ^ (64 * k)))

/-- The round constants: the cube roots of the eighty primes. -/
def roundWords : List Word64 := primes.map (rootFraction 3)

/-- The initial hash value: the square roots of the first eight primes. -/
def initial : List Word64 := (primes.take 8).map (rootFraction 2)

/-! ### The functions of a round -/

/-- Three right rotations added bit by bit: the function Σ of FIPS 180-4, its amounts as arguments. -/
def rotations (i j k : Nat) (x : Word64) : Word64 := x.rotateRight i ^^^ x.rotateRight j ^^^ x.rotateRight k

/-- Two right rotations and a right shift added bit by bit: the function σ of FIPS 180-4. -/
def rotationsAndShift (i j k : Nat) (x : Word64) : Word64 := x.rotateRight i ^^^ x.rotateRight j ^^^ (x >>> k)

/-- Bit by bit: y where x is 1, z where it is 0. -/
def choose (x y z : Word64) : Word64 := z ^^^ (x &&& (y ^^^ z))

/-- Bit by bit: the value at least two of the three have. -/
def majority (x y z : Word64) : Word64 := (x &&& y) ||| (z &&& (x ||| y))

/-- The padded message: a one bit, zero bits, and the length in bits as a 128-bit big-endian number, a multiple of 128
bytes in all. -/
def padded (m : List Byte) : List Byte :=
  m ++ (0x80 : Byte) :: (List.replicate ((239 - m.length % 128) % 128) (0 : Byte) ++
    (List.range 16).map (fun i => BitVec.ofNat 8 (8 * m.length / 256 ^ (15 - i))))

/-- Eight bytes as a word, most significant first. -/
def word64BE (bs : List Byte) : Word64 := BitVec.ofNat 64 (bs.foldl (fun n b => 256 * n + b.toNat) 0)

/-- The n words of a byte sequence. -/
def words : Nat → List Byte → List Word64
  | 0, _ => []
  | n + 1, bs => word64BE (bs.take 8) :: words n (bs.drop 8)

/-- The n further words of the message schedule, the words so far held latest first. -/
def extend : Nat → List Word64 → List Word64
  | 0, ws => ws
  | n + 1, ws =>
    let w := rotationsAndShift 19 61 6 (ws.getD 1 0) + ws.getD 6 0 + rotationsAndShift 1 8 7 (ws.getD 14 0) + ws.getD 15 0
    extend n (w :: ws)

/-- The 80 schedule words of a 128-byte block. -/
def schedule (block : List Byte) : List Word64 := (extend 64 (words 16 block).reverse).reverse

/-- One round, with the constant k and the schedule word w, over the eight working words. -/
def round (k w : Word64) : List Word64 → List Word64
  | [a, b, c, d, e, f, g, h] =>
    let t := h + rotations 14 18 41 e + choose e f g + k + w
    [t + rotations 28 34 39 a + majority a b c, a, b, c, d + t, e, f, g]
  | other => other

/-- The rounds of one block over the paired constants and schedule words. -/
def rounds : List Word64 → List Word64 → List Word64 → List Word64
  | k :: ks, w :: ws, r => rounds ks ws (round k w r)
  | _, _, r => r

/-- One block folded into the hash value, word by word. -/
def compress (hash : List Word64) (block : List Byte) : List Word64 :=
  List.zipWith (· + ·) hash (rounds roundWords (schedule block) hash)

/-- The first n blocks of the padded message. -/
def blocks : Nat → List Byte → List Word64 → List Word64
  | 0, _, hash => hash
  | n + 1, bs, hash => blocks n (bs.drop 128) (compress hash (bs.take 128))

/-- A word as eight bytes, most significant first. -/
def bytesBE (w : Word64) : List Byte := (List.range 8).map fun i => w.extractLsb' (8 * (7 - i)) 8

end Sys2Proof.Machine.Sha512

namespace Sys2Proof.Machine

/-- The 64-byte SHA-512 digest of a byte sequence (R106). -/
def sha512 (m : List Byte) : Bytes64 :=
  let p := Sha512.padded m
  let bs := (Sha512.blocks (p.length / 128) p Sha512.initial).flatMap Sha512.bytesBE
  Vector.ofFn fun t => bs.getD t.val 0

end Sys2Proof.Machine
end

