-- ==== Sys2Proof/Machine/StubEngines.lean ====
section
/-! DEFINITION. The stub engines of spec/95_test_vectors.md section 3: a test instantiation of the contracts of spec/41 R106
and R107, no claim about any hardware. All arithmetic is mod 2^32. -/

namespace Sys2Proof.Machine

/-- `fnv(m)` (spec/95 section 3). -/
def fnv (m : List Byte) : Word := m.foldl (fun h b => (h ^^^ b.setWidth 32) * 0x01000193) 0x811C9DC5

/-- `stubsha(m)` (spec/95 section 3). -/
def stubSha (m : List Byte) : Bytes64 :=
  let h := fnv m
  Vector.ofFn fun i => byteOf h (i.val % 4) ^^^ BitVec.ofNat 8 i.val

/-- The stub cipher's state after BF_INIT. -/
def stubBfInit : List Word := [0x243F6A88]

/-- The stub cipher's keyed expansion. -/
def stubBfExpand (s : List Word) (a k : Bytes64) : List Word :=
  [s.headD 0 ^^^ fnv a.toList ^^^ (fnv k.toList).rotateLeft 1]

/-- The stub cipher's single-input expansion. -/
def stubBfExpand0 (s : List Word) (a : Bytes64) : List Word :=
  [((s.headD 0).rotateLeft 5 ^^^ fnv a.toList) + 0x9E3779B9]

/-- The stub cipher's encryption. -/
def stubBfEncrypt (s : List Word) (w : Words8) : Words8 :=
  Vector.ofFn fun j => (w[j] ^^^ s.headD 0).rotateLeft 5 + w[(j.val + 1) % 8] + BitVec.ofNat 32 j.val

end Sys2Proof.Machine
end

