-- ==== Sys2Proof/Machine/Engines.lean ====
section
/-! DEFINITION. The functions the two engines compute in one instance (spec/00_scope.md R5, spec/41 R106, R107): the digest
function and the four cipher functions, as the parameters name them. -/

namespace Sys2Proof.Machine

/-- The digest function of the SHA-512 engine (R106). -/
def digestOf (p : Params) (m : List Byte) : Bytes64 :=
  match p.sha with
  | .fips => sha512 m
  | .stub => stubSha m

/-- bf_init (R107). -/
def bfInitOf (p : Params) : List Word :=
  match p.bf with
  | .openFns => Config.bfInit
  | .standard => Blowfish.piWords
  | .stub => stubBfInit

/-- bf_expand: state, salt input, key input (R107). -/
def bfExpandOf (p : Params) (s : List Word) (a k : Bytes64) : List Word :=
  match p.bf with
  | .openFns => Config.bfExpand s a k
  | .standard => Blowfish.expand s a k
  | .stub => stubBfExpand s a k

/-- bf_expand0: state, the single input (R107). -/
def bfExpand0Of (p : Params) (s : List Word) (a : Bytes64) : List Word :=
  match p.bf with
  | .openFns => Config.bfExpand0 s a
  | .standard => Blowfish.expand0 s a
  | .stub => stubBfExpand0 s a

/-- bf_encrypt: state, eight words (R107). -/
def bfEncryptOf (p : Params) (s : List Word) (w : Words8) : Words8 :=
  match p.bf with
  | .openFns => Config.bfEncrypt s w
  | .standard => Blowfish.encrypt s w
  | .stub => stubBfEncrypt s w

end Sys2Proof.Machine
end

