-- ==== Sys2Proof/Machine/PortB.lean ====
section
/-! DEFINITION. The port B operations, executed by the Blowfish-family engine on the request it has accepted (spec/41 R107,
R114 to R118). The block's own side, the request it drives and what it reads back, is in the states that issue the
operation. -/

namespace Sys2Proof.Machine

/-- BF_INIT: σ <- bf_init (R114). -/
def execBfInit (s : State) : Host.Outcome State Fault Refusal :=
  .next (s.answerB (.st (bfInitOf s.params)) (Config.freeWords s.drawn))

/-- BF_EXPAND: σ <- bf_expand(σ, A, K) (R115). From a CLEARED state the result is free (DESIGN CHOICE,
assumption 10, safe). -/
def execBfExpand (a k : Bytes64) (s : State) : Host.Outcome State Fault Refusal :=
  match s.sigma with
  | .st c => .next (s.answerB (.st (bfExpandOf s.params c a k)) (Config.freeWords s.drawn))
  | .cleared => .next (s.answerB (Config.freeSigma s.drawn) (Config.freeWords s.drawn))

/-- BF_EXPAND0: σ <- bf_expand0(σ, A) (R116). From a CLEARED state the result is free (DESIGN CHOICE,
assumption 10, safe). -/
def execBfExpand0 (a : Bytes64) (s : State) : Host.Outcome State Fault Refusal :=
  match s.sigma with
  | .st c => .next (s.answerB (.st (bfExpand0Of s.params c a)) (Config.freeWords s.drawn))
  | .cleared => .next (s.answerB (Config.freeSigma s.drawn) (Config.freeWords s.drawn))

/-- BF_ENCRYPT: the answer is bf_encrypt(σ, W), σ unchanged (R117). From a CLEARED state the answer is
free (DESIGN CHOICE, assumption 10, safe). -/
def execBfEncrypt (w : Words8) (s : State) : Host.Outcome State Fault Refusal :=
  match s.sigma with
  | .st c => .next (s.answerB s.sigma (bfEncryptOf s.params c w))
  | .cleared => .next (s.answerB s.sigma (Config.freeWords s.drawn))

/-- BF_CLEAR: σ <- CLEARED (R118). -/
def execBfClear (s : State) : Host.Outcome State Fault Refusal :=
  .next (s.answerB .cleared (Config.freeWords s.drawn))

end Sys2Proof.Machine
end

