-- ==== Sys2Proof/Machine/PortS.lean ====
section
/-! DEFINITION. The port S operations, executed by the SHA-512 engine on the request it has accepted (spec/41 R106, R110 to
R113). The block's own side, the request it drives and what it reads back, is in the states that issue the operation. -/

namespace Sys2Proof.Machine

/-- SHA_INIT: μ <- the empty sequence (R110). -/
def execShaInit (s : State) : Host.Outcome State Fault Refusal :=
  .next (s.answerS (.ctx []) (Config.freeDigest s.drawn))

/-- SHA_UPDATE: μ <- μ ++ p (R111). A CLEARED context has no extension the spec states: the new one is free (DESIGN CHOICE,
assumption 10, safe). -/
def execShaUpdate (p : List Byte) (s : State) : Host.Outcome State Fault Refusal :=
  match s.mu with
  | .ctx m => .next (s.answerS (.ctx (m ++ p)) (Config.freeDigest s.drawn))
  | .cleared => .next (s.answerS (Config.freeMu s.drawn) (Config.freeDigest s.drawn))

/-- SHA_FINAL: the answer is the digest of μ, and μ is unspecified afterwards (R112). A CLEARED context has no digest the
spec states: the answer is free (DESIGN CHOICE, assumption 10, safe). -/
def execShaFinal (s : State) : Host.Outcome State Fault Refusal :=
  match s.mu with
  | .ctx m => .next (s.answerS (Config.freeMu s.drawn) (digestOf s.params m))
  | .cleared => .next (s.answerS (Config.freeMu s.drawn) (Config.freeDigest s.drawn))

/-- SHA_CLEAR: μ <- CLEARED (R113). -/
def execShaClear (s : State) : Host.Outcome State Fault Refusal :=
  .next (s.answerS .cleared (Config.freeDigest s.drawn))

end Sys2Proof.Machine
end

