-- ==== Sys2Proof/Machine/Setup.lean ====
section
/-! DEFINITION. The states IDLE, CHECK, PH_INIT, PH_UPD and PH_FIN (spec/42_setup_and_password_digest.md R120 to R128). -/

namespace Sys2Proof.Machine

/-- IDLE: the sequencer has no step (R120). -/
def execStateIdle (s : State) : Host.Outcome State Fault Refusal := .next s

/-- STRIDE = ceil(OUT_LEN / 32) (R121, R124). -/
def strideOf (outLen : Word) : BitVec 6 := ((outLen + 31) >>> 5).setWidth 6

/-- AMT = ceil(OUT_LEN / STRIDE) (R121, R125). -/
def amtOf (outLen : Word) : BitVec 6 :=
  ((outLen + (strideOf outLen).setWidth 32 - 1) / (strideOf outLen).setWidth 32).setWidth 6

/-- CHECK: with a failed condition the error entry INVALID_PARAMETER, else the geometry and the counters (R121). -/
def execStateCheck (s : State) : Host.Outcome State Fault Refusal :=
  if s.checkInfo ≠ 0 then .next (s.raiseFault .invalidParameter s.checkInfo .check)
  else
    .next
      { s with
        stride := strideOf s.outLen
        amt := amtOf s.outLen
        remain := s.outLen.setWidth 11
        blkCnt := 1, rndCnt := 1, iter := 0
        st := .phInit }

/-- PH_INIT: SHA_INIT, then PH_UPD (R126). -/
def execStatePhInit (s : State) : Host.Outcome State Fault Refusal :=
  .next (s.visitS .phInit (headerOnly 0x1) fun _ t => { t with st := .phUpd })

/-- PH_UPD: SHA_UPDATE of PWBUF[0..PW_LEN), then PH_FIN (R127). -/
def execStatePhUpd (s : State) : Host.Outcome State Fault Refusal :=
  if !s.outstanding && decide (s.params.pwMax < s.pwLen.toNat) then .fault .pwbufRange
  else .next (s.visitS .phUpd (updateBeats s.password) fun _ t => { t with st := .phFin })

/-- PH_FIN: SHA_FINAL, PD <- D, then SS_INIT (R128). -/
def execStatePhFin (s : State) : Host.Outcome State Fault Refusal :=
  .next (s.visitS .phFin (headerOnly 0x3) fun d t => { t with pd := d, st := .ssInit })

end Sys2Proof.Machine
end

