-- ==== Sys2Proof/Machine/Dispatch.lean ====
section
/-! DEFINITION. The dispatch: one arm per row of spec/opcode_table.json. -/

namespace Sys2Proof.Machine

def exec (i : Instr) (s : State) : Host.Outcome State Fault Refusal :=
  match i with
  | .rd32 off => Sys2Proof.Machine.execRd32 off s
  | .wr32 off v => Sys2Proof.Machine.execWr32 off v s
  | .wr32Ctrl v => Sys2Proof.Machine.execWr32Ctrl v s
  | .wr32Status v => Sys2Proof.Machine.execWr32Status v s
  | .wr32Cmd w => Sys2Proof.Machine.execWr32Cmd w s
  | .wr32PwLen v => Sys2Proof.Machine.execWr32PwLen v s
  | .wr32SaltLen v => Sys2Proof.Machine.execWr32SaltLen v s
  | .wr32OutLen v => Sys2Proof.Machine.execWr32OutLen v s
  | .wr32Rounds v => Sys2Proof.Machine.execWr32Rounds v s
  | .wr32Pwbuf k v => Sys2Proof.Machine.execWr32Pwbuf k v s
  | .wr32Saltbuf k v => Sys2Proof.Machine.execWr32Saltbuf k v s
  | .nop => Sys2Proof.Machine.execNop s
  | .start => Sys2Proof.Machine.execStart s
  | .abort => Sys2Proof.Machine.execAbort s
  | .zeroize => Sys2Proof.Machine.execZeroize s
  | .cmdIllegal w => Sys2Proof.Machine.execCmdIllegal w s
  | .stateIdle => Sys2Proof.Machine.execStateIdle s
  | .stateCheck => Sys2Proof.Machine.execStateCheck s
  | .statePhInit => Sys2Proof.Machine.execStatePhInit s
  | .statePhUpd => Sys2Proof.Machine.execStatePhUpd s
  | .statePhFin => Sys2Proof.Machine.execStatePhFin s
  | .stateSsInit => Sys2Proof.Machine.execStateSsInit s
  | .stateSsUpd => Sys2Proof.Machine.execStateSsUpd s
  | .stateSsFin => Sys2Proof.Machine.execStateSsFin s
  | .stateBhInit => Sys2Proof.Machine.execStateBhInit s
  | .stateBhExp => Sys2Proof.Machine.execStateBhExp s
  | .stateBhE0s => Sys2Proof.Machine.execStateBhE0s s
  | .stateBhE0p => Sys2Proof.Machine.execStateBhE0p s
  | .stateBhLdc => Sys2Proof.Machine.execStateBhLdc s
  | .stateBhEnc => Sys2Proof.Machine.execStateBhEnc s
  | .stateBhSer => Sys2Proof.Machine.execStateBhSer s
  | .stateBhClr => Sys2Proof.Machine.execStateBhClr s
  | .stateAcc => Sys2Proof.Machine.execStateAcc s
  | .stateRhInit => Sys2Proof.Machine.execStateRhInit s
  | .stateRhUpd => Sys2Proof.Machine.execStateRhUpd s
  | .stateRhFin => Sys2Proof.Machine.execStateRhFin s
  | .stateDist => Sys2Proof.Machine.execStateDist s
  | .stateFinSclr => Sys2Proof.Machine.execStateFinSclr s
  | .stateFinZero => Sys2Proof.Machine.execStateFinZero s
  | .stateErrSclr => Sys2Proof.Machine.execStateErrSclr s
  | .stateErrBclr => Sys2Proof.Machine.execStateErrBclr s
  | .stateErrZero => Sys2Proof.Machine.execStateErrZero s
  | .shaInit => Sys2Proof.Machine.execShaInit s
  | .shaUpdate p => Sys2Proof.Machine.execShaUpdate p s
  | .shaFinal => Sys2Proof.Machine.execShaFinal s
  | .shaClear => Sys2Proof.Machine.execShaClear s
  | .bfInit => Sys2Proof.Machine.execBfInit s
  | .bfExpand a k => Sys2Proof.Machine.execBfExpand a k s
  | .bfExpand0 a => Sys2Proof.Machine.execBfExpand0 a s
  | .bfEncrypt w => Sys2Proof.Machine.execBfEncrypt w s
  | .bfClear => Sys2Proof.Machine.execBfClear s

end Sys2Proof.Machine
end

