-- ==== Sys2Proof/Machine/Agents.lean ====
section
/-! DEFINITION. One step of each agent (spec/10_state.md R10): how a host access, a visit of the sequencer and an answer
of a collaborator become the execution of a decoded instruction, and the step that an event stands for. -/

namespace Sys2Proof.Machine

/-- The access is to this block's region (spec/20_memory.md R40). -/
def BusAccess.inRegion (p : Params) (a : BusAccess) : Bool := decide (p.base ≤ a.addr) && decide (a.addr < p.base + 0x4000)

/-- A single 32-bit access to a word-aligned offset with all four byte lanes enabled (R42). -/
def BusAccess.legal (a : BusAccess) : Bool := decide (a.width = .word) && decide (a.addr % 4 = 0) && decide (a.lanes = 0xF)

/-- The HOSTBUS15 item of an access (spec/30_encoding.md R78): its direction, its offset from BKDF_BASE, its data. -/
def BusAccess.item (p : Params) (a : BusAccess) : Item :=
  .bus ((if a.write then 1#1 else 0#1) ++ BitVec.ofNat 14 (a.addr - p.base)) a.wdata

/-- A host step (R80): an access elsewhere is not the block's; an access that is not legal gets the error response and has
no effect (R43); a legal one executes its instruction (DEDUCED, assumption 13, safe). -/
def hostStep (a : BusAccess) (s : State) : Host.Outcome State Fault Refusal :=
  if !BusAccess.inRegion s.params a then .next s
  else if !BusAccess.legal a then .next { s with busRsp := .busError }
  else
    match decode (BusAccess.item s.params a) with
    | .ok i => exec i s
    | .reject _ => .next { s with busRsp := .busError }

/-- A sequencer step (spec/41 R100): a pending abort is taken instead of the visit, else the state in STATE is executed. -/
def seqStep (s : State) : Host.Outcome State Fault Refusal :=
  if s.abortDue then .next s.takeAbort
  else
    match decode (.state s.st.code) with
    | .ok i => exec i s
    | .reject r => .refused (.undefinedRequest r)

/-- The SHA-512 engine answers the request it has accepted, with the drawn error bit (R106, R108). With none accepted it
has no step. -/
def answerStepS (err : Bool) (s : State) : Host.Outcome State Fault Refusal :=
  if s.sAcc = [] then .next s
  else
    match decode (.portS s.sAcc) with
    | .ok i => exec i { s with errDraw := err }
    | .reject r => .refused (.undefinedRequest r)

/-- The Blowfish-family engine answers the request it has accepted, with the drawn error bit (R107, R108). With none
accepted it has no step. -/
def answerStepB (err : Bool) (s : State) : Host.Outcome State Fault Refusal :=
  match s.bAcc with
  | none => .next s
  | some q =>
    match decode (.portB q) with
    | .ok i => exec i { s with errDraw := err }
    | .reject r => .refused (.undefinedRequest r)

/-- The step an event stands for (R10, R52, R210). -/
def runEvent (e : Event) (s : State) : Host.Outcome State Fault Refusal :=
  match e with
  | .host a => hostStep a s
  | .seq => seqStep s
  | .acceptS => .next s.acceptS
  | .answerS err => answerStepS err s
  | .acceptB => .next s.acceptB
  | .answerB err => answerStepB err s
  | .rst => .next s.resetBlock

/-- What comes next: the oldest event of the agenda, and a free value where the agenda is empty, so that every
interleaving of R52 is admitted. -/
def State.takeEvent (s : State) : Event × State :=
  match s.agenda with
  | e :: rest => (e, { s with agenda := rest })
  | [] => (Config.nextEvent s.drawn, { s with drawn := s.drawn + 1 })

/-- The host access of a HOSTBUS15 item. -/
def busAccessOf (p : Params) (bits : BitVec 15) (v : Word) : BusAccess :=
  { write := bits.extractLsb' 14 1 = 1, addr := p.base + (bits.extractLsb' 0 14).toNat, width := .word, lanes := 0xF
    wdata := v }

/-- The state in which the next step executes an encoded item: for a bus operation or a command word the host access that
carries it comes next; for a state code STATE holds it, at a visit boundary with no abort pending, and the sequencer is
next; for a port request the engine has accepted it and answers next, without an error. -/
def State.placeItem (s : State) : Item → State
  | .bus bits v => { s with agenda := .host (busAccessOf s.params bits v) :: s.agenda }
  | .cmd w => { s with agenda := .host (busAccessOf s.params (busWrite 0x010) w) :: s.agenda }
  | .state c =>
    match SeqState.ofCode c with
    | some st => { s with st := st, outstanding := false, abortP := false, agenda := .seq :: s.agenda }
    | none => s
  | .portS beats => { s with sAcc := beats, agenda := .answerS false :: s.agenda }
  | .portB r => { s with bAcc := some r, agenda := .answerB false :: s.agenda }

end Sys2Proof.Machine
end

