-- ==== Sys2Proof/Machine/Step.lean ====
section
/-! DEFINITION. One step of the machine: the next event and the agent's step it stands for. -/

namespace Sys2Proof.Machine

/-- One step: what comes next is taken and run. -/
def step (s : State) : Host.Outcome State Fault Refusal := runEvent s.takeEvent.1 s.takeEvent.2

/-- The state whose next step executes the instruction whose table word is w. -/
def State.withFetchWord (s : State) (nbits w : Nat) : State :=
  match tableItem nbits w with
  | some it => s.placeItem it
  | none => s

end Sys2Proof.Machine
end

