-- ==== Sys2Proof/WellFormed.lean ====
section
/-! DEFINITION. Which terms of `Instr` are instructions of the opcode table: the operand values that the row's mask and
match admit (spec/30_encoding.md R63, R72, R78). -/

namespace Sys2Proof

/-- The word-aligned offsets that a `WR32.*` row with a wider mask takes from the row WR32 (R78, spec/40_host_commands.md
R82): the seven registers with a write rule and the two input windows. -/
def dispatchedWrite (off : BitVec 14) : Bool :=
  off == 0x008 || off == 0x00C || off == 0x010 || off == 0x018 || off == 0x01C || off == 0x020 || off == 0x024 ||
    off.extractLsb' 12 2 == 1 || off.extractLsb' 12 2 == 2

/-- Bits 1:0 of an offset are 00 (spec/20_memory.md R42). -/
def aligned (off : BitVec 14) : Bool := off.extractLsb' 0 2 == 0

/-- An instruction's operands are values its encoding admits: aligned offsets (R42, R78); the fall-back row WR32 only for
offsets no `WR32.*` row takes (R78); CMD.ILLEGAL only for the words R63 calls illegal; a SHA_UPDATE payload of 1 to 4100
bytes (R72). -/
def WellFormed : Instr → Bool
  | .rd32 off => aligned off
  | .wr32 off _ => aligned off && !dispatchedWrite off
  | .cmdIllegal w => decide (4 ≤ w.toNat)
  | .shaUpdate p => decide (1 ≤ p.length ∧ p.length ≤ 4100)
  | _ => true

end Sys2Proof
end

