-- ==== Sys2Proof/Safety.lean ====
section
/-! DEFINITION. What the statements speak of: the request of each state (spec/30_encoding.md R70, R76), the shape of a port
visit (spec/41 R100), the invariants of a run (spec/10_state.md R16, R20 to R30), the order of visits of an undisturbed run
(spec/43 R149, spec/44 R174), and the functions it computes (spec/43 R140, spec/44 R168, R169, R173). -/

namespace Sys2Proof.Safety

open Sys2Proof.Machine

/-! ### The requests -/

/-- The one port request each state issues, as the table of R70 and R76 give it. -/
def requestOf (s : State) : Option Instr :=
  match s.st with
  | .phInit | .ssInit | .rhInit => some .shaInit
  | .phUpd => some (.shaUpdate s.password)
  | .ssUpd => some (.shaUpdate (s.salt ++ be32 s.blkCnt))
  | .rhUpd => some (.shaUpdate s.prev.toList)
  | .phFin | .ssFin | .rhFin => some .shaFinal
  | .finSclr | .errSclr => some .shaClear
  | .bhInit => some .bfInit
  | .bhExp => some (.bfExpand s.sd s.pd)
  | .bhE0s => some (.bfExpand0 s.sd)
  | .bhE0p => some (.bfExpand0 s.pd)
  | .bhEnc => some (.bfEncrypt s.cw)
  | .bhClr | .errBclr => some .bfClear
  | .idle | .check | .bhLdc | .bhSer | .acc | .dist | .finZero | .errZero => none

/-- All six slots and places of a request or a response are empty. -/
def PortsEmpty (s : State) : Prop :=
  s.sReq = [] ∧ s.sAcc = [] ∧ s.sRsp = none ∧ s.bReq = none ∧ s.bAcc = none ∧ s.bRsp = none

/-- A visit boundary with nothing on the ports and no abort pending (R100). -/
def QuietBoundary (s : State) : Prop := s.outstanding = false ∧ s.abortP = false ∧ PortsEmpty s

/-! ### A port visit -/

/-- The things the visit of a port S state `st` can do (R100, R101, R109, R189): issue `req`, with `ok` where the operand
must exist, but not into a full slot; complete by `after` on an answer without error; on an error answer SHA_FAULT; without
an answer nothing. -/
def VisitsPortS (st : SeqState) (ok : State → Prop) (req : State → Instr) (after : Bytes64 → State → State) : Prop :=
  ∀ s : State,
    (s.outstanding = false → s.sReq = [] → ok s →
      ∃ beats, encode (req s) = .portS beats ∧
        exec st.instr s = .next { s with sReq := beats, outstanding := true }) ∧
    (s.outstanding = false → s.sReq ≠ [] → ok s → exec st.instr s = .next s) ∧
    (∀ d, s.outstanding = true → s.sRsp = some { err := false, data := d } →
      exec st.instr s = .next (after d { s with sRsp := none, outstanding := false })) ∧
    (∀ d, s.outstanding = true → s.sRsp = some { err := true, data := d } →
      exec st.instr s =
        .next { s with
          sRsp := none, outstanding := false, st := .errSclr
          errCode := 0x00000002 ||| (st.code.setWidth 32 <<< 16) }) ∧
    (s.outstanding = true → s.sRsp = none → exec st.instr s = .next s)

/-- The same for a port B state, an error answer being BF_FAULT (R100, R103, R109, R190). -/
def VisitsPortB (st : SeqState) (req : State → Instr) (after : Words8 → State → State) : Prop :=
  ∀ s : State,
    (s.outstanding = false → s.bReq = none →
      ∃ q, encode (req s) = .portB q ∧ exec st.instr s = .next { s with bReq := some q, outstanding := true }) ∧
    (s.outstanding = false → s.bReq ≠ none → exec st.instr s = .next s) ∧
    (∀ w, s.outstanding = true → s.bRsp = some { err := false, w := w } →
      exec st.instr s = .next (after w { s with bRsp := none, outstanding := false })) ∧
    (∀ w, s.outstanding = true → s.bRsp = some { err := true, w := w } →
      exec st.instr s =
        .next { s with
          bRsp := none, outstanding := false, st := .errSclr
          errCode := 0x00000003 ||| (st.code.setWidth 32 <<< 16) }) ∧
    (s.outstanding = true → s.bRsp = none → exec st.instr s = .next s)

/-! ### The invariants -/

/-- A run is past CHECK and has met no error: the states PH_INIT to FIN_ZERO (R70). -/
def Computing (st : SeqState) : Prop :=
  st ≠ .idle ∧ st ≠ .check ∧ SeqState.onErrorPath st = false

/-- The offset is a byte of PWBUF, SALTBUF or OUTBUF (R26, R41). -/
def IsBufferByte (p : Params) (x : Nat) : Prop :=
  (pwBase ≤ x ∧ x < pwBase + p.pwMax) ∨ (saltBase ≤ x ∧ x < saltBase + p.saltMax) ∨ (outBase ≤ x ∧ x < outBase + outBytes)

/-- The memory has its canonical form and lists bytes of the three buffers only (R26). -/
def MemoryInv (s : State) : Prop := Memory.wf s.mem ∧ ∀ c ∈ s.mem, IsBufferByte s.params c.1

/-- The port discipline (R21, R105): OUTSTANDING is 1 only in a state that issues a request; then that request, and no
other, is in the slot, or accepted, or answered; while it is 0 the ports are empty. -/
def PortInv (s : State) : Prop :=
  if s.outstanding then
    (s.st.port = .portS ∧ s.bReq = none ∧ s.bAcc = none ∧ s.bRsp = none ∧
      ∃ i beats, requestOf s = some i ∧ encode i = .portS beats ∧ beats ≠ [] ∧
        ((s.sReq = beats ∧ s.sAcc = [] ∧ s.sRsp = none) ∨ (s.sReq = [] ∧ s.sAcc = beats ∧ s.sRsp = none) ∨
          (s.sReq = [] ∧ s.sAcc = [] ∧ s.sRsp ≠ none))) ∨
    (s.st.port = .portB ∧ s.sReq = [] ∧ s.sAcc = [] ∧ s.sRsp = none ∧
      ∃ i q, requestOf s = some i ∧ encode i = .portB q ∧
        ((s.bReq = some q ∧ s.bAcc = none ∧ s.bRsp = none) ∨ (s.bReq = none ∧ s.bAcc = some q ∧ s.bRsp = none) ∨
          (s.bReq = none ∧ s.bAcc = none ∧ s.bRsp ≠ none)))
  else PortsEmpty s

/-- The parameters a derivation may have (R11 to R14, R188). -/
def ParamsLegal (s : State) : Prop :=
  1 ≤ s.rounds.toNat ∧ 1 ≤ s.pwLen.toNat ∧ s.pwLen.toNat ≤ s.params.pwMax ∧ 1 ≤ s.saltLen.toNat ∧
    s.saltLen.toNat ≤ s.params.saltMax ∧ 1 ≤ s.outLen.toNat ∧ s.outLen.toNat ≤ 1024

/-- |P(c)| = ceil((n - c + 1) / s): how many bytes block c gives the key (R168). -/
def blockShare (n s c : Nat) : Nat := (n + 1 - c + (s - 1)) / s

/-- The bytes not yet placed after c blocks (R22, R168). -/
def remainAfter (n s : Nat) : Nat → Nat
  | 0 => n
  | c + 1 => remainAfter n s c - blockShare n s (c + 1)

/-- The counters' ranges while computing (R22, R124, R125, R168). -/
def CountersInv (s : State) : Prop :=
  Computing s.st →
    ParamsLegal s ∧
    s.stride.toNat = (s.outLen.toNat + 31) / 32 ∧
    s.amt.toNat = (s.outLen.toNat + s.stride.toNat - 1) / s.stride.toNat ∧
    1 ≤ s.blkCnt.toNat ∧ s.blkCnt.toNat ≤ s.stride.toNat ∧
    1 ≤ s.rndCnt.toNat ∧ s.rndCnt.toNat ≤ s.rounds.toNat ∧
    s.remain.toNat =
      if s.st = .finSclr ∨ s.st = .finZero then 0
      else remainAfter s.outLen.toNat s.stride.toNat (s.blkCnt.toNat - 1)

/-- The report flags: DONE and ERR are never both 1 (R16), both are 0 while busy, ERRCODE is 0 in a run that has met no
error and after a success, holds one of the four codes on the error path, and its reserved bits are 0 (R66, R187). -/
def ReportInv (s : State) : Prop :=
  ¬(s.done = true ∧ s.err = true) ∧
  (s.st ≠ .idle → s.done = false ∧ s.err = false) ∧
  (s.st ≠ .idle → SeqState.onErrorPath s.st = false → s.errCode = 0) ∧
  (s.done = true → s.errCode = 0) ∧
  (SeqState.onErrorPath s.st = true → 1 ≤ (s.errCode &&& 0xF).toNat) ∧
  (s.errCode &&& 0xF).toNat ≤ 4 ∧ s.errCode &&& 0xFFE080F0 = 0

/-- Every working register and counter is zero (R22 to R25). -/
def WorkZero (s : State) : Prop :=
  s.pd = zero64 ∧ s.sd = zero64 ∧ s.block = zero32 ∧ s.prev = zero32 ∧ s.cw = zeroW ∧
  s.blkCnt = 0 ∧ s.rndCnt = 0 ∧ s.stride = 0 ∧ s.amt = 0 ∧ s.remain = 0 ∧ s.iter = 0

/-- Every byte of PWBUF and SALTBUF and both lengths are zero (R218). -/
def InputsZero (s : State) : Prop :=
  s.pwLen = 0 ∧ s.saltLen = 0 ∧ (∀ i < s.params.pwMax, memRead s.mem (pwBase + i) = 0) ∧
    ∀ i < s.params.saltMax, memRead s.mem (saltBase + i) = 0

/-- Every byte of OUTBUF is zero. -/
def OutZero (s : State) : Prop := ∀ i < outBytes, memRead s.mem (outBase + i) = 0

/-- In IDLE no abort is pending, and in IDLE and CHECK no working register holds anything (R16, R30, R123). -/
def IdleInv (s : State) : Prop :=
  (s.st = .idle → s.abortP = false) ∧ (s.st = .idle ∨ s.st = .check → WorkZero s)

/-- CW holds something only from BH_LDC's end to BH_SER, and on the error path (R25, R225). -/
def WordBufferInv (s : State) : Prop :=
  s.cw = zeroW ∨ s.st = .bhEnc ∨ s.st = .bhSer ∨ SeqState.onErrorPath s.st = true

/-- A run's OUTBUF bytes at index OUT_LEN or above are zero, and all of them until CHECK has passed (R47, R88). -/
def OutputInv (s : State) : Prop :=
  (s.st = .check → OutZero s) ∧
  (Computing s.st → ∀ i, s.outLen.toNat ≤ i → i < outBytes → memRead s.mem (outBase + i) = 0)

/-- All that holds at every moment of every run. -/
def RunInv (s : State) : Prop :=
  MemoryInv s ∧ PortInv s ∧ CountersInv s ∧ ReportInv s ∧ IdleInv s

/-! ### The undisturbed run -/

/-- The events of one visit with nothing between: the sequencer alone, or its issue, the engine's acceptance and error-free
answer, and the completion (R100, R108). -/
def turn (st : SeqState) : List Event :=
  match st.port with
  | .none => [.seq]
  | .portS => [.seq, .acceptS, .answerS false, .seq]
  | .portB => [.seq, .acceptB, .answerB false, .seq]

/-- The events of a sequence of visits. -/
def turns (sts : List SeqState) : List Event := sts.flatMap turn

/-- The visits of one Bcrypt-Hash in order (R149). -/
def hashVisits : List SeqState :=
  [.bhInit, .bhExp] ++ (List.replicate 64 [.bhE0s, .bhE0p]).flatten ++ [.bhLdc] ++ List.replicate 64 .bhEnc ++
    [.bhSer, .bhClr]

/-- The visits of the round chain of one block, for R rounds (R163 to R166). -/
def chainVisits (r : Nat) : List SeqState :=
  hashVisits ++ [.acc] ++ (List.replicate (r - 1) ([.rhInit, .rhUpd, .rhFin] ++ hashVisits ++ [.acc])).flatten

/-- The visits of one block (R160 to R167). -/
def blockVisits (r : Nat) : List SeqState := [.ssInit, .ssUpd, .ssFin] ++ chainVisits r ++ [.dist]

/-- The visits of a whole successful run, CHECK to FIN_ZERO, for s blocks and R rounds (R174). -/
def runVisits (s r : Nat) : List SeqState :=
  [.check, .phInit, .phUpd, .phFin] ++ (List.replicate s (blockVisits r)).flatten ++ [.finSclr, .finZero]

/-! ### What it computes -/

/-- n times: σ <- bf_expand0(σ, S), σ <- bf_expand0(σ, P) (R140, step 3). -/
def mixPairs (p : Params) (P S : Bytes64) : Nat → List Word → List Word
  | 0, c => c
  | n + 1, c => mixPairs p P S n (bfExpand0Of p (bfExpand0Of p c S) P)

/-- n times: W <- bf_encrypt(σ, W) (R140, step 5). -/
def encryptTimes (p : Params) (c : List Word) : Nat → Words8 → Words8
  | 0, w => w
  | n + 1, w => encryptTimes p c n (bfEncryptOf p c w)

/-- CONSTW, the eight words R145 lists. -/
def constWords : Words8 :=
  #v[0x4F787963, 0x68726F6D, 0x61746963, 0x426C6F77, 0x66697368, 0x53776174, 0x44796E61, 0x6D697465]

/-- The words that step 6 of bcryptHash(P, S) serialises (R140). -/
def hashWords (p : Params) (P S : Bytes64) : Words8 :=
  encryptTimes p (mixPairs p P S 64 (bfExpandOf p (bfInitOf p) S P)) 64 constWords

/-- bcryptHash(P, S), its 32 bytes (R140). -/
def bcryptHash (p : Params) (P S : Bytes64) : List Byte := (hashWords p P S).toList.flatMap le32

/-- H_(r+1) of R169, for the salt digest `S` of round 1: H_1 at r = 0. -/
def chainHash (p : Params) (P S : Bytes64) : Nat → List Byte
  | 0 => bcryptHash p P S
  | r + 1 => bcryptHash p P (digestOf p (chainHash p P S r))

/-- H_1 xor ... xor H_(r+1) (R169). -/
def chainXor (p : Params) (P S : Bytes64) : Nat → List Byte
  | 0 => chainHash p P S 0
  | r + 1 => List.zipWith (· ^^^ ·) (chainXor p P S r) (chainHash p P S (r + 1))

/-- The 32 bytes of block c of `derive(password, salt, _, R)` (R169). -/
def derivedBlock (p : Params) (password salt : List Byte) (r c : Nat) : List Byte :=
  chainXor p (digestOf p password) (digestOf p (salt ++ be32 (BitVec.ofNat 32 c))) (r - 1)

/-- Byte d of `derive(password, salt, n, R)` (R168, R173): byte d div s of block d mod s + 1. -/
def derivedByte (p : Params) (password salt : List Byte) (n r d : Nat) : Byte :=
  let s := (n + 31) / 32
  (derivedBlock p password salt r (d % s + 1)).getD (d / s) 0

end Sys2Proof.Safety
end

