-- ==== Sys2Proof/Certificates/Slice0/Obligations.lean ====
section
/-! DEFINITION. The statements for the provers, in the order of the spec's files. -/

open Sys2Proof Sys2Proof.Machine Sys2Proof.Safety

/-! ### The step, the decoder and the encoder -/

/-- A step runs the decoded instruction, for each of the four agents (spec/10_state.md R10): a legal host access in the
block's region, a visit of the sequencer where no abort is taken, and the answers of the two collaborators. With an empty
agenda the next event is a free value (the model's form of spec/20_memory.md R52, log entry 1). -/
def Obligations.StepRunsTheDecodedInstruction : Prop :=
  ∀ (s : State) (rest : List Event),
    (∀ a i, s.agenda = .host a :: rest → BusAccess.inRegion s.params a = true → BusAccess.legal a = true →
      decode (BusAccess.item s.params a) = .ok i → step s = exec i { s with agenda := rest }) ∧
    (∀ i, s.agenda = .seq :: rest → s.abortDue = false → decode (.state s.st.code) = .ok i →
      step s = exec i { s with agenda := rest }) ∧
    (∀ e i, s.agenda = .answerS e :: rest → s.sAcc ≠ [] → decode (.portS s.sAcc) = .ok i →
      step s = exec i { s with agenda := rest, errDraw := e }) ∧
    (∀ e q i, s.agenda = .answerB e :: rest → s.bAcc = some q → decode (.portB q) = .ok i →
      step s = exec i { s with agenda := rest, errDraw := e }) ∧
    (s.agenda = [] → step s = runEvent (Config.nextEvent s.drawn) { s with drawn := s.drawn + 1 })

/-- Words written out from the spec's encodings decode to the instructions they stand for (spec/30_encoding.md R62, R70,
R71, R73, R78). -/
def Obligations.SpecWordsDecode : Prop :=
  decode (.bus 0x000C 0) = .ok (.rd32 0x00C) ∧
  decode (.bus 0x4010 0x00000001) = .ok (.wr32Cmd 0x00000001) ∧
  decode (.bus 0x5004 0x64726F77) = .ok (.wr32Pwbuf 1 0x64726F77) ∧
  decode (.bus 0x4002 1) = .reject .misaligned ∧
  decode (.cmd 0x00000003) = .ok .zeroize ∧
  decode (.cmd 0x00000011) = .ok (.cmdIllegal 0x00000011) ∧
  decode (.state 0x14) = .ok .stateDist ∧
  decode (.state 0x1A) = .reject (.reservedState 0x1A) ∧
  decode (.portS [.header 0x2 2 0 false, .payload 0x0000000000007770 true]) = .ok (.shaUpdate [0x70, 0x77]) ∧
  decode (.portB { op := 0x5, a := zero64, k := zero64, w := zeroW }) = .ok .bfClear

/-- Decode and encode agree: for every well-formed instruction, with every operand its encoding admits. -/
def Obligations.DecodeOfEncodeIsTheInstruction : Prop :=
  ∀ i : Instr, WellFormed i = true → decode (encode i) = .ok i

/-- A command word is one of exactly four legal values, and every other word is illegal (R62). -/
def Obligations.CommandWordsAreExactlyFour : Prop :=
  ∀ w : Word,
    (decode (.cmd w) = .ok .nop ↔ w = 0x00000000) ∧ (decode (.cmd w) = .ok .start ↔ w = 0x00000001) ∧
    (decode (.cmd w) = .ok .abort ↔ w = 0x00000002) ∧ (decode (.cmd w) = .ok .zeroize ↔ w = 0x00000003) ∧
    (decode (.cmd w) = .ok (.cmdIllegal w) ↔ w ≠ 0x00000000 ∧ w ≠ 0x00000001 ∧ w ≠ 0x00000002 ∧ w ≠ 0x00000003)

/-! ### Reset -/

/-- Right after reset, for all parameters: every register and buffer zero, IDLE, nothing outstanding, `irq` low
(spec/10_state.md R31). The collaborators' contexts, the model's own choice (log entry 6), are not spoken of. -/
def Obligations.ResetStateIsAllZero : Prop :=
  State.reset = State.resetWith Params.reference ∧
  ∀ p : Params,
    let s := State.resetWith p
    s.pwLen = 0 ∧ s.saltLen = 0 ∧ s.outLen = 0 ∧ s.rounds = 0 ∧ s.ieDone = false ∧ s.ieErr = false ∧ s.statusWord = 0 ∧
    s.errCode = 0 ∧ s.st = .idle ∧ s.outstanding = false ∧ WorkZero s ∧ PortsEmpty s ∧ s.irq = false ∧
    (∀ x, memRead s.mem x = 0) ∧ s.params = p

/-- The reset event, from any state and between any two steps (spec/70_reset_and_hazards.md section 1). That it also takes
away the requests the engines have accepted, which `PortsEmpty` says, is the model's choice (log entry 7: the platform's duty);
the block's own four slots and its outputs are the spec's. -/
def Obligations.ResetEventClearsTheBlock : Prop :=
  ∀ (s : State) (rest : List Event), s.agenda = .rst :: rest →
    ∃ t, step s = .next t ∧ t.agenda = rest ∧ t.params = s.params ∧
      t.pwLen = 0 ∧ t.saltLen = 0 ∧ t.outLen = 0 ∧ t.rounds = 0 ∧ t.ieDone = false ∧ t.ieErr = false ∧
      t.done = false ∧ t.err = false ∧ t.cmdErr = false ∧ t.wErr = false ∧ t.abortP = false ∧ t.errCode = 0 ∧
      t.st = .idle ∧ t.outstanding = false ∧ WorkZero t ∧ (∀ x, memRead t.mem x = 0) ∧ PortsEmpty t ∧
      t.sReqSignals = .header 0 0 0 false ∧ t.bReqSignals = { op := 0, a := zero64, k := zero64, w := zeroW } ∧
      t.sRspReady = false ∧ t.bRspReady = false ∧ t.irq = false ∧
      t.readWord 0x000 = 0x424B4446 ∧ t.readWord 0x004 = 0x00010000 ∧ t.readWord 0x038 = s.readWord 0x038

/-! ### Host reads -/

/-- RD32 returns the word R81 lists for the offset, bit field by bit field, and changes nothing else. -/
def Obligations.ReadsReturnTheMappedWord : Prop :=
  ∀ (s : State) (off : BitVec 14), aligned off = true →
    ∃ v, exec (.rd32 off) s = .next { s with busRsp := .data v } ∧
      (off = 0x000 → v = 0x424B4446) ∧
      (off = 0x004 → v = 0x00010000) ∧
      (off = 0x008 → v.getLsbD 0 = s.ieDone ∧ v.getLsbD 1 = s.ieErr ∧ v.extractLsb' 2 30 = 0) ∧
      (off = 0x00C →
        v.getLsbD 0 = decide (s.st ≠ .idle) ∧ v.getLsbD 1 = s.done ∧ v.getLsbD 2 = s.err ∧ v.getLsbD 3 = s.cmdErr ∧
        v.getLsbD 4 = s.wErr ∧ v.getLsbD 5 = ((s.done && s.ieDone) || (s.err && s.ieErr)) ∧ v.getLsbD 6 = s.abortP ∧
        v.extractLsb' 7 25 = 0) ∧
      (off = 0x010 → v = 0) ∧
      (off = 0x014 → v = s.errCode) ∧
      (off = 0x018 → v = s.pwLen) ∧ (off = 0x01C → v = s.saltLen) ∧
      (off = 0x020 → v = s.outLen) ∧ (off = 0x024 → v = s.rounds) ∧
      (off = 0x028 → v = s.blkCnt) ∧ (off = 0x02C → v = s.rndCnt) ∧
      (off = 0x030 →
        v.extractLsb' 0 6 = s.stride ∧ v.extractLsb' 6 2 = 0 ∧ v.extractLsb' 8 6 = s.amt ∧ v.extractLsb' 14 2 = 0 ∧
        v.extractLsb' 16 11 = s.remain ∧ v.extractLsb' 27 5 = 0) ∧
      (off = 0x034 →
        v.extractLsb' 0 5 = s.st.code ∧ v.extractLsb' 5 3 = 0 ∧ v.getLsbD 8 = s.outstanding ∧ v.extractLsb' 9 7 = 0 ∧
        v.extractLsb' 16 6 = s.iter ∧ v.extractLsb' 22 10 = 0) ∧
      (off = 0x038 →
        (v.extractLsb' 0 13).toNat = s.params.pwMax ∧ v.extractLsb' 13 3 = 0 ∧
        (v.extractLsb' 16 13).toNat = s.params.saltMax ∧ v.extractLsb' 29 3 = 0) ∧
      (0x03C ≤ off.toNat → off.toNat < 0x3000 → v = 0) ∧
      (0x3000 ≤ off.toNat → off.toNat < 0x3400 → s.st ≠ .idle → v = 0) ∧
      (0x3000 ≤ off.toNat → off.toNat < 0x3400 → s.st = .idle →
        ∀ j < 4, v.extractLsb' (8 * j) 8 = memRead s.mem (off.toNat + j)) ∧
      (0x3400 ≤ off.toNat → v = 0)

/-- No host access reaches PD, SD, BLOCK, PREV or CW (R49): what a read returns does not depend on them, nor on the bytes
of the input buffers, nor while busy on OUTBUF, and no host step writes them. -/
def Obligations.HostAccessesNeverReachSecrets : Prop :=
  (∀ (s : State) (off : BitVec 14) (pd sd : Bytes64) (block prev : Bytes32) (cw : Words8) (m : Memory),
    (s.st = .idle → ∀ i < 1024, memRead m (0x3000 + i) = memRead s.mem (0x3000 + i)) →
    ∃ v, exec (.rd32 off) s = .next { s with busRsp := .data v } ∧
      exec (.rd32 off) { s with pd := pd, sd := sd, block := block, prev := prev, cw := cw, mem := m } =
        .next { s with pd := pd, sd := sd, block := block, prev := prev, cw := cw, mem := m, busRsp := .data v }) ∧
  (∀ (s t : State) (a : BusAccess) (rest : List Event), s.agenda = .host a :: rest → step s = .next t →
    t.pd = s.pd ∧ t.sd = s.sd ∧ t.block = s.block ∧ t.prev = s.prev ∧ t.cw = s.cw)

/-- An access to the block that is not a 32-bit, word-aligned, all-lanes access gets the error response and has no effect
(R43); its read data is zero. -/
def Obligations.IllegalAccessGetsBusError : Prop :=
  ∀ (s : State) (a : BusAccess) (rest : List Event), s.agenda = .host a :: rest →
    s.params.base ≤ a.addr → a.addr < s.params.base + 0x4000 →
    (a.width ≠ .word ∨ a.addr % 4 ≠ 0 ∨ a.lanes ≠ 0xF) →
    step s = .next { s with agenda := rest, busRsp := .busError } ∧ readData .busError = 0

/-! ### Host writes -/

/-- A write to PW_LEN, SALT_LEN, OUT_LEN or ROUNDS is held while idle and dropped with WERR while busy (R83). -/
def Obligations.ConfigurationWritesHoldOnlyWhileIdle : Prop :=
  ∀ (s : State) (v : Word),
    (s.st = .idle →
      exec (.wr32PwLen v) s = .next { s with busRsp := .written, pwLen := v } ∧
      exec (.wr32SaltLen v) s = .next { s with busRsp := .written, saltLen := v } ∧
      exec (.wr32OutLen v) s = .next { s with busRsp := .written, outLen := v } ∧
      exec (.wr32Rounds v) s = .next { s with busRsp := .written, rounds := v }) ∧
    (s.st ≠ .idle →
      ∀ i ∈ [Instr.wr32PwLen v, .wr32SaltLen v, .wr32OutLen v, .wr32Rounds v],
        exec i s = .next { s with busRsp := .written, wErr := true })

/-- A CTRL write sets the two enables in any state (R84), and the interrupt output follows at once by R199. -/
def Obligations.CtrlWriteSetsEnablesAtOnce : Prop :=
  ∀ (s : State) (v : Word),
    ∃ t, exec (.wr32Ctrl v) s = .next t ∧
      t = { s with busRsp := .written, ieDone := v.getLsbD 0, ieErr := v.getLsbD 1 } ∧
      t.irq = ((s.done && v.getLsbD 0) || (s.err && v.getLsbD 1))

/-- A STATUS write clears exactly the W1C flags whose bit is 1, in every state (R85). -/
def Obligations.StatusWriteClearsWhatIsOne : Prop :=
  ∀ (s : State) (v : Word),
    ∃ t, exec (.wr32Status v) s = .next t ∧
      t = { s with busRsp := .written, done := t.done, err := t.err, cmdErr := t.cmdErr, wErr := t.wErr } ∧
      t.done = (if v.getLsbD 1 then false else s.done) ∧ t.err = (if v.getLsbD 2 then false else s.err) ∧
      t.cmdErr = (if v.getLsbD 3 then false else s.cmdErr) ∧ t.wErr = (if v.getLsbD 4 then false else s.wErr)

/-- A word written to an input window while idle stores byte lane j at byte 4k + j below the capacity and leaves every
other byte; while busy it is dropped with WERR (R91); a read of either window returns 0 (R45, R46). -/
def Obligations.InputWindowWritesStoreLanes : Prop :=
  ∀ (s : State) (k : BitVec 10) (v : Word), Memory.wf s.mem →
    (s.st = .idle →
      (∃ m, exec (.wr32Pwbuf k v) s = .next { s with busRsp := .written, mem := m } ∧
        (∀ j < 4, 4 * k.toNat + j < s.params.pwMax →
          memRead m (0x1000 + (4 * k.toNat + j)) = v.extractLsb' (8 * j) 8) ∧
        ∀ x, (∀ j < 4, 4 * k.toNat + j < s.params.pwMax → x ≠ 0x1000 + (4 * k.toNat + j)) →
          memRead m x = memRead s.mem x) ∧
      (∃ m, exec (.wr32Saltbuf k v) s = .next { s with busRsp := .written, mem := m } ∧
        (∀ j < 4, 4 * k.toNat + j < s.params.saltMax →
          memRead m (0x2000 + (4 * k.toNat + j)) = v.extractLsb' (8 * j) 8) ∧
        ∀ x, (∀ j < 4, 4 * k.toNat + j < s.params.saltMax → x ≠ 0x2000 + (4 * k.toNat + j)) →
          memRead m x = memRead s.mem x)) ∧
    (s.st ≠ .idle →
      exec (.wr32Pwbuf k v) s = .next { s with busRsp := .written, wErr := true } ∧
      exec (.wr32Saltbuf k v) s = .next { s with busRsp := .written, wErr := true }) ∧
    (∀ off : BitVec 14, 0x1000 ≤ off.toNat → off.toNat < 0x3000 →
      exec (.rd32 off) s = .next { s with busRsp := .data 0 })

/-- Every other write has no effect and sets no flag: it decodes to WR32, which changes nothing (R92). -/
def Obligations.OtherWritesHaveNoEffect : Prop :=
  ∀ (s : State) (off : BitVec 14) (v : Word), off.extractLsb' 0 2 = 0 →
    off ∉ [0x008, 0x00C, 0x010, 0x018, 0x01C, 0x020, 0x024] → (off.toNat < 0x1000 ∨ 0x3000 ≤ off.toNat) →
    decode (.bus (busWrite off) v) = .ok (.wr32 off v) ∧
      exec (.wr32 off v) s = .next { s with busRsp := .written }

/-! ### Commands -/

/-- A write to CMD, in any state: an MBZ bit or a reserved OP sets CMDERR and nothing else, and each legal word executes its
command. The write always completes (R86). -/
def Obligations.CommandWriteRunsTheCommand : Prop :=
  ∀ (s : State) (w : Word),
    (w.extractLsb' 4 28 ≠ 0 → exec (.wr32Cmd w) s = .next { s with busRsp := .written, cmdErr := true }) ∧
    (w.extractLsb' 4 28 = 0 →
      (w.extractLsb' 0 4 = 0x0 → exec (.wr32Cmd w) s = exec .nop { s with busRsp := .written }) ∧
      (w.extractLsb' 0 4 = 0x1 → exec (.wr32Cmd w) s = exec .start { s with busRsp := .written }) ∧
      (w.extractLsb' 0 4 = 0x2 → exec (.wr32Cmd w) s = exec .abort { s with busRsp := .written }) ∧
      (w.extractLsb' 0 4 = 0x3 → exec (.wr32Cmd w) s = exec .zeroize { s with busRsp := .written }) ∧
      (4 ≤ (w.extractLsb' 0 4).toNat → exec (.wr32Cmd w) s = .next { s with busRsp := .written, cmdErr := true })) ∧
    ∃ t, exec (.wr32Cmd w) s = .next t

/-- NOP has no effect in any state (R87). -/
def Obligations.NopChangesNothing : Prop := ∀ s : State, exec .nop s = .next s

/-- An illegal command word does nothing but set CMDERR, in any state, and does so through CMD too (R63). -/
def Obligations.IllegalCommandOnlySetsCmdErr : Prop :=
  ∀ (s : State) (w : Word), (w.extractLsb' 4 28 ≠ 0 ∨ 4 ≤ (w.extractLsb' 0 4).toNat) →
    decode (.cmd w) = .ok (.cmdIllegal w) ∧ exec (.cmdIllegal w) s = .next { s with cmdErr := true } ∧
      exec (.wr32Cmd w) s = .next { s with busRsp := .written, cmdErr := true }

/-- START while idle clears the report and OUTBUF and enters CHECK; while busy it is dropped with CMDERR (R88). -/
def Obligations.StartEntersCheckOnlyFromIdle : Prop :=
  ∀ s : State,
    (s.st ≠ .idle → exec .start s = .next { s with cmdErr := true }) ∧
    (s.st = .idle →
      ∃ m, exec .start s =
          .next { s with done := false, err := false, abortP := false, errCode := 0, st := .check, mem := m } ∧
        (∀ i < 1024, memRead m (0x3000 + i) = 0) ∧
        ∀ x, (x < 0x3000 ∨ 0x3400 ≤ x) → memRead m x = memRead s.mem x)

/-- ABORT while busy sets ABORTP, while idle does nothing (R89); the sequencer takes it at a visit boundary, as the error
entry with CODE 4 and the state it replaces (R191), but neither while a request is outstanding nor on the error path. -/
def Obligations.AbortIsTakenAtAVisitBoundary : Prop :=
  ∀ s : State,
    (s.st ≠ .idle → exec .abort s = .next { s with abortP := true }) ∧
    (s.st = .idle → exec .abort s = .next s) ∧
    (∀ rest, s.agenda = .seq :: rest → s.abortP = true → s.outstanding = false →
      s.st ∉ [.idle, .errSclr, .errBclr, .errZero] →
      step s =
        .next { s with
          agenda := rest, abortP := false, st := .errSclr
          errCode := 0x00000004 ||| (s.st.code.setWidth 32 <<< 16) }) ∧
    (∀ rest, s.agenda = .seq :: rest → (s.outstanding = true ∨ s.st ∈ [.errSclr, .errBclr, .errZero]) →
      step s = exec s.st.instr { s with agenda := rest })

/-- ZEROIZE while idle wipes OUTBUF, PWBUF, SALTBUF and both lengths and clears DONE; while busy it is dropped with CMDERR
(R90). -/
def Obligations.ZeroizeWipesOnlyWhileIdle : Prop :=
  ∀ s : State,
    (s.st ≠ .idle → exec .zeroize s = .next { s with cmdErr := true }) ∧
    (s.st = .idle →
      ∃ m, exec .zeroize s = .next { s with pwLen := 0, saltLen := 0, done := false, mem := m } ∧
        (∀ i < 1024, memRead m (0x3000 + i) = 0) ∧ (∀ i < s.params.pwMax, memRead m (0x1000 + i) = 0) ∧
        (∀ i < s.params.saltMax, memRead m (0x2000 + i) = 0) ∧
        ∀ x, ¬IsBufferByte s.params x → memRead m x = memRead s.mem x)

/-! ### IDLE, CHECK and the password digest -/

/-- In IDLE the sequencer has no step, and IDLE is left only by START, which writes CHECK (R120). -/
def Obligations.IdleIsLeftOnlyByStart : Prop :=
  (∀ s : State, exec .stateIdle s = .next s) ∧
  ∀ s t : State, s.st = .idle → step s = .next t →
    t.st = .idle ∨
      (t.st = .check ∧
        ∃ a, s.takeEvent.1 = .host a ∧ a.write = true ∧ a.addr = s.params.base + 0x010 ∧ a.wdata = 0x00000001)

/-- CHECK records every failed condition in INFO and none else, CODE 1 and FSTATE CHECK, writes no counter and no byte,
sends no request, and goes to ERR_ZERO (R122, R123). -/
def Obligations.CheckReportsEveryFailedCondition : Prop :=
  ∀ s : State,
    (s.rounds = 0 ∨ s.pwLen = 0 ∨ s.saltLen = 0 ∨ s.outLen = 0 ∨ 1024 < s.outLen.toNat ∨
      s.params.pwMax < s.pwLen.toNat ∨ s.params.saltMax < s.saltLen.toNat) →
    ∃ e, exec .stateCheck s = .next { s with errCode := e, st := .errZero } ∧
      e.extractLsb' 0 8 = 0x01 ∧
      e.getLsbD 8 = decide (s.rounds = 0) ∧ e.getLsbD 9 = decide (s.pwLen = 0) ∧
      e.getLsbD 10 = decide (s.saltLen = 0) ∧ e.getLsbD 11 = decide (s.outLen = 0) ∧
      e.getLsbD 12 = decide (1024 < s.outLen.toNat) ∧ e.getLsbD 13 = decide (s.params.pwMax < s.pwLen.toNat) ∧
      e.getLsbD 14 = decide (s.params.saltMax < s.saltLen.toNat) ∧ e.getLsbD 15 = false ∧
      e.extractLsb' 16 16 = 0x0001

/-- CHECK with legal parameters sets the geometry and the counters and goes to PH_INIT, STRIDE and AMT being the ceilings
of R124 and R125 with the bounds those rules state. -/
def Obligations.CheckSetsTheGeometry : Prop :=
  ∀ s : State, ParamsLegal s →
    ∃ k a : BitVec 6,
      exec .stateCheck s =
        .next { s with
          stride := k, amt := a, remain := BitVec.ofNat 11 s.outLen.toNat, blkCnt := 1, rndCnt := 1, iter := 0
          st := .phInit } ∧
      1 ≤ k.toNat ∧ k.toNat ≤ 32 ∧ k.toNat ≤ s.outLen.toNat ∧
      32 * (k.toNat - 1) < s.outLen.toNat ∧ s.outLen.toNat ≤ 32 * k.toNat ∧
      1 ≤ a.toNat ∧ a.toNat ≤ 32 ∧ s.outLen.toNat ≤ a.toNat * k.toNat ∧ (a.toNat - 1) * k.toNat < s.outLen.toNat

/-- PH_INIT, PH_UPD and PH_FIN: the request each issues, its completion, its fault and its wait (R126 to R128). -/
def Obligations.PasswordDigestStates : Prop :=
  VisitsPortS .phInit (fun _ => True) (fun _ => .shaInit) (fun _ t => { t with st := .phUpd }) ∧
  VisitsPortS .phUpd (fun s => s.pwLen.toNat ≤ s.params.pwMax)
    (fun s => .shaUpdate ((List.range s.pwLen.toNat).map fun i => memRead s.mem (0x1000 + i)))
    (fun _ t => { t with st := .phFin }) ∧
  VisitsPortS .phFin (fun _ => True) (fun _ => .shaFinal) (fun d t => { t with pd := d, st := .ssInit })

/-! ### Bcrypt-Hash -/

/-- BH_INIT, BH_EXP, BH_E0S and BH_E0P: one keyed expansion with the salt digest as A and the password digest as K, then the
64 pairs counted by ITER (R141 to R144). -/
def Obligations.ExpansionStates : Prop :=
  VisitsPortB .bhInit (fun _ => .bfInit) (fun _ t => { t with st := .bhExp }) ∧
  VisitsPortB .bhExp (fun s => .bfExpand s.sd s.pd) (fun _ t => { t with iter := 0, st := .bhE0s }) ∧
  VisitsPortB .bhE0s (fun s => .bfExpand0 s.sd) (fun _ t => { t with st := .bhE0p }) ∧
  VisitsPortB .bhE0p (fun s => .bfExpand0 s.pd) (fun _ t =>
    if t.iter = 63 then { t with iter := 0, st := .bhLdc } else { t with iter := t.iter + 1, st := .bhE0s })

/-- BH_LDC loads the constant's eight words and goes to BH_ENC (R145). -/
def Obligations.LoadsTheConstant : Prop :=
  ∀ s : State,
    exec .stateBhLdc s =
      .next { s with
        cw := #v[0x4F787963, 0x68726F6D, 0x61746963, 0x426C6F77, 0x66697368, 0x53776174, 0x44796E61, 0x6D697465]
        st := .bhEnc }

/-- BH_ENC encrypts CW and takes the answer, 64 times by ITER (R146). BH_CLR clears the cipher state and goes to ACC
(R148). -/
def Obligations.EncryptionAndClearStates : Prop :=
  VisitsPortB .bhEnc (fun s => .bfEncrypt s.cw) (fun w t =>
    if t.iter = 63 then { t with cw := w, iter := 0, st := .bhSer }
    else { t with cw := w, iter := t.iter + 1, st := .bhEnc }) ∧
  VisitsPortB .bhClr (fun _ => .bfClear) (fun _ t => { t with st := .acc })

/-- BH_SER stores byte b of word j at PREV[4j + b], zeroes CW and goes to BH_CLR (R147). -/
def Obligations.SerialisesLittleEndian : Prop :=
  ∀ s : State, ∃ p : Bytes32,
    exec .stateBhSer s = .next { s with prev := p, cw := Vector.replicate 8 0, st := .bhClr } ∧
      ∀ (j : Fin 8) (b : Fin 4), p[4 * j.val + b.val] = ((s.cw[j] >>> (8 * b.val)) &&& 0xFF).setWidth 8

/-! ### The driver -/

/-- SS_INIT, SS_UPD and SS_FIN: the digest of the salt and the big-endian block counter (R160 to R162). -/
def Obligations.SaltDigestStates : Prop :=
  VisitsPortS .ssInit (fun _ => True) (fun _ => .shaInit) (fun _ t => { t with st := .ssUpd }) ∧
  VisitsPortS .ssUpd (fun s => s.saltLen.toNat ≤ s.params.saltMax)
    (fun s => .shaUpdate ((List.range s.saltLen.toNat).map (fun i => memRead s.mem (0x2000 + i)) ++
      [s.blkCnt.extractLsb' 24 8, s.blkCnt.extractLsb' 16 8, s.blkCnt.extractLsb' 8 8, s.blkCnt.extractLsb' 0 8]))
    (fun _ t => { t with st := .ssFin }) ∧
  VisitsPortS .ssFin (fun _ => True) (fun _ => .shaFinal) (fun d t => { t with sd := d, st := .bhInit })

/-- ACC copies PREV into BLOCK in round 1 and folds it in by exclusive or later, then goes to the next round or to DIST
(R163). -/
def Obligations.AccumulatesTheRounds : Prop :=
  ∀ s : State, ∃ b : Bytes32,
    (s.rndCnt = 1 → b = s.prev) ∧ (s.rndCnt ≠ 1 → ∀ i : Fin 32, b[i] = s.block[i] ^^^ s.prev[i]) ∧
    (s.rndCnt.toNat < s.rounds.toNat →
      exec .stateAcc s = .next { s with block := b, rndCnt := s.rndCnt + 1, st := .rhInit }) ∧
    (s.rounds.toNat ≤ s.rndCnt.toNat → exec .stateAcc s = .next { s with block := b, st := .dist })

/-- RH_INIT, RH_UPD and RH_FIN: the digest of PREV becomes the salt digest (R164 to R166). -/
def Obligations.RehashStates : Prop :=
  VisitsPortS .rhInit (fun _ => True) (fun _ => .shaInit) (fun _ t => { t with st := .rhUpd }) ∧
  VisitsPortS .rhUpd (fun _ => True) (fun s => .shaUpdate s.prev.toList) (fun _ t => { t with st := .rhFin }) ∧
  VisitsPortS .rhFin (fun _ => True) (fun _ => .shaFinal) (fun d t => { t with sd := d, st := .bhInit })

/-- DIST stores byte i of BLOCK at OUTBUF[i * STRIDE + BLKCNT - 1] for every i below min(AMT, REMAIN) whose position is
below OUT_LEN, leaves every other byte, counts REMAIN down by the bytes stored, and goes to FIN_SCLR or to the next block
(R167). AMT, OUT_LEN, STRIDE and BLKCNT are in the ranges that R22 and R124 give a run. -/
def Obligations.DistributesTheBlock : Prop :=
  ∀ s : State, Memory.wf s.mem → s.amt.toNat ≤ 32 → s.outLen.toNat ≤ 1024 → 1 ≤ s.stride.toNat → 1 ≤ s.blkCnt.toNat →
    let pos := fun i => i * s.stride.toNat + (s.blkCnt.toNat - 1)
    let w := (List.range (min s.amt.toNat s.remain.toNat)).countP fun i => decide (pos i < s.outLen.toNat)
    ∃ m, (∀ i, (h : i < 32) → i < w → memRead m (0x3000 + pos i) = s.block[i]) ∧
      (∀ x, (∀ i < w, x ≠ 0x3000 + pos i) → memRead m x = memRead s.mem x) ∧
      (s.remain.toNat = w →
        exec .stateDist s = .next { s with mem := m, remain := 0, st := .finSclr }) ∧
      (s.remain.toNat ≠ w →
        exec .stateDist s =
          .next { s with
            mem := m, remain := BitVec.ofNat 11 (s.remain.toNat - w), blkCnt := s.blkCnt + 1, rndCnt := 1
            st := .ssInit })

/-- At the DIST of block c a run places exactly ceil((n - c + 1) / s) bytes, at least one, and REMAIN reaches 0 exactly at
block s (R168). -/
def Obligations.DistPlacesTheBlocksShare : Prop :=
  ∀ s t : State, CountersInv s → s.st = .dist → exec .stateDist s = .next t →
    let n := s.outLen.toNat
    let c := s.blkCnt.toNat
    s.remain.toNat - t.remain.toNat = (n - c + 1 + (s.stride.toNat - 1)) / s.stride.toNat ∧
      t.remain.toNat < s.remain.toNat ∧ (t.remain = 0 ↔ c = s.stride.toNat) ∧ (t.st = .finSclr ↔ c = s.stride.toNat)

/-- FIN_SCLR clears the digest context and goes to FIN_ZERO (R170). -/
def Obligations.FinishClearsTheDigestContext : Prop :=
  VisitsPortS .finSclr (fun _ => True) (fun _ => .shaClear) (fun _ t => { t with st := .finZero })

/-- FIN_ZERO zeroes every secret, sets DONE, clears ABORTP and goes to IDLE; OUTBUF and all else stay (R171). -/
def Obligations.FinishZeroesEverySecret : Prop :=
  ∀ s : State, ∃ t, exec .stateFinZero s = .next t ∧
    t = { s with
      pd := zero64, sd := zero64, block := zero32, prev := zero32, cw := zeroW
      blkCnt := 0, rndCnt := 0, stride := 0, amt := 0, remain := 0, iter := 0
      pwLen := 0, saltLen := 0, done := true, abortP := false, st := .idle, mem := t.mem } ∧
    (∀ i < s.params.pwMax, memRead t.mem (0x1000 + i) = 0) ∧ (∀ i < s.params.saltMax, memRead t.mem (0x2000 + i) = 0) ∧
    (∀ x, (x < 0x1000 ∨ 0x3000 ≤ x) → memRead t.mem x = memRead s.mem x)

/-! ### The error path -/

/-- ERR_SCLR and ERR_BCLR send the two clears and go on whatever the answer's error bit says; with a full slot or without an
answer they wait (R194, R195). -/
def Obligations.ErrorPathClearsBothEngines : Prop :=
  ∀ s : State,
    (s.outstanding = false → s.sReq = [] →
      exec .stateErrSclr s = .next { s with sReq := [.header 0x4 0 0 true], outstanding := true }) ∧
    (s.outstanding = false → s.sReq ≠ [] → exec .stateErrSclr s = .next s) ∧
    (∀ e d, s.outstanding = true → s.sRsp = some { err := e, data := d } →
      exec .stateErrSclr s = .next { s with sRsp := none, outstanding := false, st := .errBclr }) ∧
    (s.outstanding = true → s.sRsp = none → exec .stateErrSclr s = .next s) ∧
    (s.outstanding = false → s.bReq = none →
      exec .stateErrBclr s =
        .next { s with bReq := some { op := 0x5, a := zero64, k := zero64, w := zeroW }, outstanding := true }) ∧
    (s.outstanding = false → s.bReq ≠ none → exec .stateErrBclr s = .next s) ∧
    (∀ e w, s.outstanding = true → s.bRsp = some { err := e, w := w } →
      exec .stateErrBclr s = .next { s with bRsp := none, outstanding := false, st := .errZero }) ∧
    (s.outstanding = true → s.bRsp = none → exec .stateErrBclr s = .next s)

/-- ERR_ZERO zeroes every secret and OUTBUF, sets ERR, clears ABORTP and goes to IDLE; all else stays (R196). -/
def Obligations.ErrorZeroesEverything : Prop :=
  ∀ s : State, ∃ t, exec .stateErrZero s = .next t ∧
    t = { s with
      pd := zero64, sd := zero64, block := zero32, prev := zero32, cw := zeroW
      blkCnt := 0, rndCnt := 0, stride := 0, amt := 0, remain := 0, iter := 0
      pwLen := 0, saltLen := 0, err := true, abortP := false, st := .idle, mem := t.mem } ∧
    (∀ x, IsBufferByte s.params x → memRead t.mem x = 0) ∧
    (∀ x, ¬IsBufferByte s.params x → memRead t.mem x = memRead s.mem x)

/-- No nesting (R193): from the error path a step leads on the path or to IDLE, and ERRCODE keeps the first cause. -/
def Obligations.FirstErrorIsTheOneRecorded : Prop :=
  ∀ s t : State, SeqState.onErrorPath s.st = true → step s = .next t → s.takeEvent.1 ≠ .rst →
    t.errCode = s.errCode ∧ (SeqState.onErrorPath t.st = true ∨ t.st = .idle)

/-- The error path is three visits, whatever the two clears' error bits and whether an abort is pending: it ends in IDLE with
ERR, the recorded code kept, nothing secret left, and each engine that answered without an error cleared. -/
def Obligations.ErrorPathEndsTheRun : Prop :=
  ∀ (s : State) (rest : List Event) (e1 e2 : Bool), s.st = .errSclr → s.outstanding = false → PortsEmpty s →
    s.agenda = [.seq, .acceptS, .answerS e1, .seq, .seq, .acceptB, .answerB e2, .seq, .seq] ++ rest →
    ∃ t, Host.Core.run Sys2Proof.core 9 s = .next t ∧ t.st = .idle ∧ t.err = true ∧ t.done = s.done ∧
      t.errCode = s.errCode ∧ t.abortP = false ∧ WorkZero t ∧ InputsZero t ∧ OutZero t ∧ t.agenda = rest ∧
      (e1 = false → t.mu = .cleared) ∧ (e2 = false → t.sigma = .cleared)

/-- The report is sticky (R192): CMDERR and WERR fall only by the host's W1C; ERR by W1C or START; DONE by W1C, START or
ZEROIZE; ERRCODE, once the block is idle, changes only by START. -/
def Obligations.ReportIsSticky : Prop :=
  ∀ s t : State, step s = .next t → s.takeEvent.1 ≠ .rst →
    let hostWrites := fun (off : Nat) (p : Word → Prop) =>
      ∃ a, s.takeEvent.1 = .host a ∧ a.write = true ∧ a.addr = s.params.base + off ∧ p a.wdata
    (s.cmdErr = true → t.cmdErr = true ∨ hostWrites 0x00C fun v => v.getLsbD 3 = true) ∧
    (s.wErr = true → t.wErr = true ∨ hostWrites 0x00C fun v => v.getLsbD 4 = true) ∧
    (s.err = true → t.err = true ∨ (hostWrites 0x00C fun v => v.getLsbD 2 = true) ∨ hostWrites 0x010 fun v => v = 1) ∧
    (s.done = true →
      t.done = true ∨ (hostWrites 0x00C fun v => v.getLsbD 1 = true) ∨ hostWrites 0x010 fun v => v = 1 ∨ v = 3) ∧
    (s.st = .idle → t.errCode = s.errCode ∨ hostWrites 0x010 fun v => v = 1)

/-! ### The ports and the collaborators -/

/-- Without an answer the sequencer is stuck, not faulted (R109): only an answer or the reset leaves the state; an ABORT in
that time is never taken. -/
def Obligations.StuckWithoutAnAnswer : Prop :=
  ∀ s t : State, s.outstanding = true → s.st.port ≠ .none → s.sRsp = none → s.bRsp = none → step s = .next t →
    s.takeEvent.1 ≠ .rst → (∀ e, s.takeEvent.1 ≠ .answerS e) → (∀ e, s.takeEvent.1 ≠ .answerB e) →
    t.st = s.st ∧ t.outstanding = true ∧ t.sRsp = none ∧ t.bRsp = none ∧ t.errCode = s.errCode

/-- The SHA-512 engine's contract (R106), for a request of the current visit: the context each operation leaves, and the
digest SHA_FINAL answers; an error answer carries err = 1 (R108). The block's own registers do not change. -/
def Obligations.ShaEngineKeepsItsContract : Prop :=
  ∀ s : State, s.outstanding = true → s.st.port = .portS → s.sRsp = none →
    (s.errDraw = false →
      (∃ d, exec .shaInit s =
        .next { s with sAcc := [], mu := .ctx [], sRsp := some { err := false, data := d }, drawn := s.drawn + 1 }) ∧
      (∀ m p, s.mu = .ctx m → ∃ d, exec (.shaUpdate p) s =
        .next { s with sAcc := [], mu := .ctx (m ++ p), sRsp := some { err := false, data := d }, drawn := s.drawn + 1 }) ∧
      (∀ m, s.mu = .ctx m → s.params.sha = .fips → ∃ mu', exec .shaFinal s =
        .next { s with sAcc := [], mu := mu', sRsp := some { err := false, data := sha512 m }, drawn := s.drawn + 1 }) ∧
      (∃ d, exec .shaClear s =
        .next { s with sAcc := [], mu := .cleared, sRsp := some { err := false, data := d }, drawn := s.drawn + 1 })) ∧
    (s.errDraw = true →
      ∀ p, ∀ i ∈ [Instr.shaInit, .shaUpdate p, .shaFinal, .shaClear], ∃ mu' d, exec i s =
        .next { s with sAcc := [], mu := mu', sRsp := some { err := true, data := d }, drawn := s.drawn + 1 })

/-- The Blowfish-family engine's contract (R107), for a request of the current visit: the state each operation leaves and
the words BF_ENCRYPT answers, for the four functions of the instance; an error answer carries err = 1 (R108). -/
def Obligations.BlowfishEngineKeepsItsContract : Prop :=
  ∀ s : State, s.outstanding = true → s.st.port = .portB → s.bRsp = none →
    (s.errDraw = false →
      (∃ w, exec .bfInit s =
        .next { s with
          bAcc := none, sigma := .st (bfInitOf s.params), bRsp := some { err := false, w := w }, drawn := s.drawn + 1 }) ∧
      (∀ c a k, s.sigma = .st c → ∃ w, exec (.bfExpand a k) s =
        .next { s with
          bAcc := none, sigma := .st (bfExpandOf s.params c a k), bRsp := some { err := false, w := w }
          drawn := s.drawn + 1 }) ∧
      (∀ c a, s.sigma = .st c → ∃ w, exec (.bfExpand0 a) s =
        .next { s with
          bAcc := none, sigma := .st (bfExpand0Of s.params c a), bRsp := some { err := false, w := w }
          drawn := s.drawn + 1 }) ∧
      (∀ c w, s.sigma = .st c → exec (.bfEncrypt w) s =
        .next { s with
          bAcc := none, bRsp := some { err := false, w := bfEncryptOf s.params c w }, drawn := s.drawn + 1 }) ∧
      (∃ w, exec .bfClear s =
        .next { s with bAcc := none, sigma := .cleared, bRsp := some { err := false, w := w }, drawn := s.drawn + 1 })) ∧
    (s.errDraw = true →
      ∀ a k w, ∀ i ∈ [Instr.bfInit, .bfExpand a k, .bfExpand0 a, .bfEncrypt w, .bfClear], ∃ sigma' w', exec i s =
        .next { s with bAcc := none, sigma := sigma', bRsp := some { err := true, w := w' }, drawn := s.drawn + 1 })

/-- An engine whose context is CLEARED still answers, without an error where none is drawn: what it answers and what its
context becomes are free values, about which this says nothing. The spec states no such result (R106, R107), and the block
never sends such a request (the model's choice, log entry 10). -/
def Obligations.ClearedEnginesStillAnswer : Prop :=
  (∀ (s : State) (p : List Byte), s.outstanding = true → s.st.port = .portS → s.sRsp = none → s.errDraw = false →
    s.mu = .cleared →
    ∀ i ∈ [Instr.shaUpdate p, .shaFinal], ∃ mu' d, exec i s =
      .next { s with sAcc := [], mu := mu', sRsp := some { err := false, data := d }, drawn := s.drawn + 1 }) ∧
  (∀ (s : State) (a k : Bytes64), s.outstanding = true → s.st.port = .portB → s.bRsp = none → s.errDraw = false →
    s.sigma = .cleared →
    ∀ i ∈ [Instr.bfExpand a k, .bfExpand0 a], ∃ sigma' w', exec i s =
      .next { s with bAcc := none, sigma := sigma', bRsp := some { err := false, w := w' }, drawn := s.drawn + 1 }) ∧
  (∀ (s : State) (w : Words8), s.outstanding = true → s.st.port = .portB → s.bRsp = none → s.errDraw = false →
    s.sigma = .cleared →
    ∃ w', exec (.bfEncrypt w) s =
      .next { s with bAcc := none, bRsp := some { err := false, w := w' }, drawn := s.drawn + 1 })

/-- A response offered while the block's ready output is 0 is not taken and changes nothing in the block, and the two ready
outputs are 1 only while a request of their port is outstanding (R105). -/
def Obligations.AnswersAreTakenOnlyWhenAwaited : Prop :=
  (∀ s : State, (s.sRspReady = true → s.outstanding = true ∧ s.st.port = .portS) ∧
    (s.bRspReady = true → s.outstanding = true ∧ s.st.port = .portB)) ∧
  (∀ (s : State) (p : List Byte), s.sRspReady = false →
    ∀ i ∈ [Instr.shaInit, .shaUpdate p, .shaFinal, .shaClear], ∃ mu',
      exec i s = .next { s with sAcc := [], mu := mu', drawn := s.drawn + 1 }) ∧
  (∀ (s : State) (a k : Bytes64) (w : Words8), s.bRspReady = false →
    ∀ i ∈ [Instr.bfInit, .bfExpand a k, .bfExpand0 a, .bfEncrypt w, .bfClear], ∃ sigma',
      exec i s = .next { s with bAcc := none, sigma := sigma', drawn := s.drawn + 1 })

/-- Every signal of the two request channels is 0 between requests (`b_req_op` by T4.14 of spec/95_test_vectors.md), and the
operand signals are 0 in every request for the operands its opcode does not use (spec/41_sequencer_and_ports.md section 5).
That `s_req_last` is low between requests, which the first clause says too, is the model's choice (log entry 19). -/
def Obligations.UnusedPortSignalsAreZero : Prop :=
  (∀ s : State, s.sReq = [] → s.sReqValid = false ∧ s.sReqSignals = .header 0 0 0 false) ∧
  (∀ s : State, s.bReq = none → s.bReqValid = false ∧ s.bReqSignals.op = 0 ∧ s.bReqA = 0 ∧ s.bReqK = 0 ∧ s.bReqW = 0) ∧
  (∀ i beats, encode i = .portS beats → ∃ op len last rest, beats = .header op len 0 last :: rest) ∧
  (∀ (i : Instr) (q : BReq) (s : State), encode i = .portB q → s.bReq = some q →
    (q.op ≠ 0x2 → q.op ≠ 0x3 → s.bReqA = 0) ∧ (q.op ≠ 0x2 → s.bReqK = 0) ∧ (q.op ≠ 0x4 → s.bReqW = 0))

/-! ### What every step keeps -/

/-- Every step keeps the memory's canonical form and lists no byte outside the three buffers (spec/10_state.md R26). -/
def Obligations.StepKeepsTheMemoryCanonical : Prop :=
  ∀ s t : State, MemoryInv s → step s = .next t → MemoryInv t

/-- Every step keeps the port discipline: at most one request outstanding over both ports, the one the current state issues
(R21, R105). -/
def Obligations.StepKeepsThePortDiscipline : Prop :=
  ∀ s t : State, PortInv s → step s = .next t → PortInv t

/-- Every step keeps the counters in the ranges of R22, R124, R125 and R168. -/
def Obligations.StepKeepsTheCounterRanges : Prop :=
  ∀ s t : State, CountersInv s → step s = .next t → CountersInv t

/-- Every step keeps the report's rules: never DONE and ERR both, ERRCODE with legal codes and zero reserved bits (R16, R66,
R187). -/
def Obligations.StepKeepsTheReportRules : Prop :=
  ∀ s t : State, ReportInv s → step s = .next t → ReportInv t

/-- Every step keeps: no abort pending in IDLE, and the working registers zero in IDLE and CHECK (R16, R30). -/
def Obligations.StepKeepsIdleClean : Prop :=
  ∀ s t : State, IdleInv s → step s = .next t → IdleInv t

/-- Every step keeps: CW is zero outside BH_ENC, BH_SER and the error path (R225), and OUTBUF is zero at OUT_LEN and above
(R47). -/
def Obligations.StepKeepsTheResidueRules : Prop :=
  ∀ s t : State, step s = .next t → (WordBufferInv s → WordBufferInv t) ∧ (OutputInv s → OutputInv t)

/-- From every state in which the invariants hold the machine takes a step, to a state in which they hold: no run ever
faults or is refused. -/
def Obligations.RunsNeverStop : Prop :=
  ∀ s : State, RunInv s → ∃ t, step s = .next t ∧ RunInv t

/-- Where PH_UPD, SS_UPD and DIST fault, an operand or a position outside its buffer, and that an engine's answer to a request
with a reserved opcode is refused (the model's choice, log entry 12). It does not say that nothing else stops: RunsNeverStop
says that no run comes to any stop. -/
def Obligations.OutOfBufferOperandsFaultAndReservedOpcodesAreRefused : Prop :=
  ∀ s : State,
    (s.outstanding = false → s.params.pwMax < s.pwLen.toNat → exec .statePhUpd s = .fault .pwbufRange) ∧
    (s.outstanding = false → s.params.saltMax < s.saltLen.toNat → exec .stateSsUpd s = .fault .saltbufRange) ∧
    ((32 < s.amt.toNat ∨ 1024 < s.outLen.toNat) → exec .stateDist s = .fault .distRange) ∧
    (∀ rest e op len d last, s.agenda = .answerS e :: rest → s.sAcc = [.header op len d last] →
      (op = 0x0 ∨ 0x5 ≤ op.toNat) → step s = .refused (.undefinedRequest (.reservedPortOp op))) ∧
    (∀ rest e q, s.agenda = .answerB e :: rest → s.bAcc = some q → (q.op = 0x0 ∨ 0x6 ≤ q.op.toNat) →
      step s = .refused (.undefinedRequest (.reservedPortOp q.op)))

/-- The invariants hold right after reset, for all parameters. -/
def Obligations.InvariantsHoldAtReset : Prop :=
  ∀ p : Params, RunInv (State.resetWith p) ∧ WordBufferInv (State.resetWith p) ∧ OutputInv (State.resetWith p)

/-- While BUSY = 1 the configuration registers and the input buffers change only by the sequencer's own step in
FIN_ZERO or ERR_ZERO (R29). -/
def Obligations.BusyKeepsTheInputs : Prop :=
  ∀ s t : State, s.st ≠ .idle → step s = .next t → s.takeEvent.1 ≠ .rst →
    t.outLen = s.outLen ∧ t.rounds = s.rounds ∧
    ((s.takeEvent.1 = .seq ∧ (s.st = .finZero ∨ s.st = .errZero)) ∨
      (t.pwLen = s.pwLen ∧ t.saltLen = s.saltLen ∧
        ∀ x, 0x1000 ≤ x → x < 0x3000 → memRead t.mem x = memRead s.mem x))

/-- Every run ends in FIN_ZERO with DONE or in ERR_ZERO with ERR, in the step in which BUSY falls, with every working
register, both input buffers and both lengths zero, and with OUT_LEN, ROUNDS and CTRL kept (R30, R172, R218, R222). -/
def Obligations.RunsEndWithNoSecret : Prop :=
  ∀ s t : State, s.st ≠ .idle → step s = .next t → s.takeEvent.1 ≠ .rst → t.st = .idle →
    WorkZero t ∧ InputsZero t ∧ t.abortP = false ∧
    t.outLen = s.outLen ∧ t.rounds = s.rounds ∧ t.ieDone = s.ieDone ∧ t.ieErr = s.ieErr ∧
    ((s.st = .finZero ∧ t.done = true ∧ t.err = s.err) ∨
      (s.st = .errZero ∧ t.err = true ∧ t.done = s.done ∧ OutZero t))

/-! ### What a run computes -/

/-- One Bcrypt-Hash, run without a disturbance: 197 visits, 195 of them port B transactions, leave bcryptHash(PD, SD) in
PREV, CW zero and the cipher state CLEARED, and change no other register (R140, R149, R150). -/
def Obligations.RoundMixingComputesBcryptHash : Prop :=
  hashVisits.length = 197 ∧ (hashVisits.filter fun st => decide (st.port = .portB)).length = 195 ∧
  (hashVisits.filter fun st => decide (st.port = .portS)).length = 0 ∧
  ∀ (s : State) (rest : List Event), s.st = .bhInit → QuietBoundary s → s.agenda = turns hashVisits ++ rest →
    ∃ p : Bytes32, p.toList = bcryptHash s.params s.pd s.sd ∧
      Host.Core.run Sys2Proof.core (turns hashVisits).length s =
        .next { s with
          st := .acc, prev := p, cw := zeroW, iter := 0, sigma := .cleared
          agenda := rest, errDraw := false, drawn := s.drawn + 195 }

/-- The accumulator lemma (R169): from SS_INIT of block c to its DIST, BLOCK becomes the exclusive or of the R outputs of
the round chain, the first salt digest being that of the salt and the counter. -/
def Obligations.RoundChainComputesTheBlock : Prop :=
  ∀ (s : State) (rest : List Event), s.st = .ssInit → QuietBoundary s → ParamsLegal s → s.rndCnt = 1 →
    s.agenda = turns ([.ssInit, .ssUpd, .ssFin] ++ chainVisits s.rounds.toNat) ++ rest →
    ∃ t, Host.Core.run Sys2Proof.core (turns ([.ssInit, .ssUpd, .ssFin] ++ chainVisits s.rounds.toNat)).length s = .next t ∧
      t.st = .dist ∧ QuietBoundary t ∧ t.agenda = rest ∧ t.rndCnt = s.rounds ∧ t.pd = s.pd ∧ t.mem = s.mem ∧
      t.blkCnt = s.blkCnt ∧ t.remain = s.remain ∧ t.stride = s.stride ∧ t.amt = s.amt ∧
      t.block.toList =
        chainXor s.params s.pd (digestOf s.params (s.salt ++ be32 s.blkCnt)) (s.rounds.toNat - 1)

/-- The whole run (R173, R174): from CHECK with legal parameters and a zero OUTBUF, undisturbed and with error-free answers,
the 6 + s(1 + 201 R) visits, 4 + 3sR of port S and 195 sR of port B, end in IDLE with DONE, with OUTBUF[0..n) the derived key
and the rest of OUTBUF zero. -/
def Obligations.UndisturbedRunDerivesTheKey : Prop :=
  (∀ k r : Nat, 1 ≤ r →
    (runVisits k r).length = 6 + k * (1 + 201 * r) ∧
    ((runVisits k r).filter fun st => decide (st.port = .portS)).length = 4 + 3 * k * r ∧
    ((runVisits k r).filter fun st => decide (st.port = .portB)).length = 195 * k * r) ∧
  ∀ (s : State) (rest : List Event), s.st = .check → QuietBoundary s → ParamsLegal s → MemoryInv s → OutZero s →
    let n := s.outLen.toNat
    let visits := runVisits ((n + 31) / 32) s.rounds.toNat
    s.agenda = turns visits ++ rest →
    ∃ t, Host.Core.run Sys2Proof.core (turns visits).length s = .next t ∧
      t.st = .idle ∧ t.done = true ∧ t.err = s.err ∧ t.errCode = s.errCode ∧ t.agenda = rest ∧
      WorkZero t ∧ InputsZero t ∧ t.mu = .cleared ∧ t.sigma = .cleared ∧
      (∀ d < n, memRead t.mem (0x3000 + d) = derivedByte s.params s.password s.salt n s.rounds.toNat d) ∧
      (∀ d, n ≤ d → d < 1024 → memRead t.mem (0x3000 + d) = 0)
end

