-- ==== Sys2Proof/Laws/Memory.lean ====
section
/-! SUPPORT. The laws of the buffers' memory: what a read gives after each operation, and that every operation keeps the
canonical form. -/

namespace Sys2Proof.Machine

/-! ### Reads -/

@[simp] theorem memRead_nil (x : Nat) : memRead [] x = 0 := rfl

theorem memRead_cons (a : Nat) (b : Byte) (m : Memory) (x : Nat) :
    memRead ((a, b) :: m) x = if x = a then b else memRead m x := rfl

/-- A byte below every listed address reads 0. -/
theorem memRead_below {m : Memory} {x : Nat} (h : ∀ c ∈ m, x < c.1) : memRead m x = 0 := by
  induction m with
  | nil => rfl
  | cons c m ih =>
    obtain ⟨a, b⟩ := c
    have hx : x < a := h (a, b) (by simp)
    simp [memRead_cons, Nat.ne_of_lt hx, ih fun c hc => h c (by simp [hc])]

/-- A byte that reads other than 0 is listed. -/
theorem mem_of_memRead_ne_zero {m : Memory} {x : Nat} (h : memRead m x ≠ 0) : (x, memRead m x) ∈ m := by
  induction m with
  | nil => simp at h
  | cons c m ih =>
    obtain ⟨a, b⟩ := c
    rw [memRead_cons] at h ⊢
    split at h
    · next hxa => subst hxa; simp
    · next hxa => simp [hxa, ih h]

/-! ### One byte written -/

/-- A write leaves every other byte as it was. -/
theorem memRead_memWrite_other (m : Memory) (v : Byte) {x y : Nat} (h : y ≠ x) :
    memRead (memWrite m x v) y = memRead m y := by
  induction m with
  | nil => by_cases hv : v = 0#8 <;> simp [memWrite, hv, memRead_cons, h]
  | cons c m ih =>
    obtain ⟨a, b⟩ := c
    rw [memWrite]
    split
    · split <;> simp [memRead_cons, h]
    · split
      · next hxa => subst hxa; split <;> simp [memRead_cons, h]
      · simp [memRead_cons, ih]

/-- A byte written reads back. -/
theorem memRead_memWrite_same {m : Memory} (hm : Memory.wf m) (x : Nat) (v : Byte) :
    memRead (memWrite m x v) x = v := by
  induction m with
  | nil => by_cases hv : v = 0#8 <;> simp [memWrite, hv, memRead_cons]
  | cons c m ih =>
    obtain ⟨a, b⟩ := c
    have hp := List.pairwise_cons.1 hm.1
    have hm' : Memory.wf m := ⟨hp.2, fun c hc => hm.2 c (by simp [hc])⟩
    rw [memWrite]
    split
    · next hxa =>
      split
      · next hv =>
        rw [memRead_cons, if_neg (Nat.ne_of_lt hxa), hv]
        exact memRead_below fun c hc => Nat.lt_trans hxa (hp.1 c hc)
      · simp [memRead_cons]
    · split
      · next hxa =>
        subst hxa
        split
        · next hv => rw [hv]; exact memRead_below fun c hc => hp.1 c hc
        · simp [memRead_cons]
      · next hxa => simp [memRead_cons, hxa, ih hm']

/-- An address listed after a write was listed before, or is the one written. -/
theorem fst_of_mem_memWrite {m : Memory} {x : Nat} {v : Byte} {c : Host.Cell} (h : c ∈ memWrite m x v) :
    c.1 = x ∨ c ∈ m := by
  induction m with
  | nil => by_cases hv : v = 0#8 <;> simp_all [memWrite]
  | cons d m ih =>
    obtain ⟨a, b⟩ := d
    rw [memWrite] at h
    split at h
    · split at h
      · exact .inr h
      · rcases List.mem_cons.1 h with rfl | h'
        · exact .inl rfl
        · exact .inr h'
    · split at h
      · next hxa =>
        split at h
        · exact .inr (by simp [h])
        · rcases List.mem_cons.1 h with rfl | h'
          · exact .inl hxa.symm
          · exact .inr (by simp [h'])
      · rcases List.mem_cons.1 h with rfl | h'
        · exact .inr (by simp)
        · rcases ih h' with h'' | h''
          · exact .inl h''
          · exact .inr (by simp [h''])

/-- A write keeps the canonical form. -/
theorem memWrite_wf {m : Memory} (hm : Memory.wf m) (x : Nat) (v : Byte) : Memory.wf (memWrite m x v) := by
  induction m with
  | nil => by_cases hv : v = 0#8 <;> simp [memWrite, hv, Memory.wf]
  | cons c m ih =>
    obtain ⟨a, b⟩ := c
    have hp := List.pairwise_cons.1 hm.1
    have hm' : Memory.wf m := ⟨hp.2, fun c hc => hm.2 c (by simp [hc])⟩
    have hb : b ≠ 0 := hm.2 (a, b) (by simp)
    rw [memWrite]
    split
    · next hxa =>
      split
      · exact hm
      · next hv =>
        refine ⟨List.pairwise_cons.2 ⟨fun c hc => ?_, hm.1⟩, fun c hc => ?_⟩
        · rcases List.mem_cons.1 hc with rfl | hc'
          · exact hxa
          · exact Nat.lt_trans hxa (hp.1 c hc')
        · rcases List.mem_cons.1 hc with rfl | hc'
          · exact hv
          · exact hm.2 c hc'
    · split
      · split
        · exact hm'
        · next hv =>
          refine ⟨List.pairwise_cons.2 ⟨fun c hc => hp.1 c hc, hp.2⟩, fun c hc => ?_⟩
          rcases List.mem_cons.1 hc with rfl | hc'
          · exact hv
          · exact hm'.2 c hc'
      · next hlt hne =>
        have ih' := ih hm'
        refine ⟨List.pairwise_cons.2 ⟨fun c hc => ?_, ih'.1⟩, fun c hc => ?_⟩
        · rcases fst_of_mem_memWrite hc with h | h
          · simp only [h]; omega
          · exact hp.1 c h
        · rcases List.mem_cons.1 hc with rfl | hc'
          · exact hb
          · exact ih'.2 c hc'

/-! ### A range zeroed -/

/-- Zeroing a range keeps the canonical form. -/
theorem memZero_wf {m : Memory} (hm : Memory.wf m) (lo hi : Nat) : Memory.wf (memZero m lo hi) :=
  ⟨hm.1.filter _, fun c hc => hm.2 c (List.mem_filter.1 hc).1⟩

/-- After zeroing, a byte of the range reads 0 and every other byte as before. -/
theorem memRead_memZero (m : Memory) (lo hi x : Nat) :
    memRead (memZero m lo hi) x = if lo ≤ x ∧ x < hi then 0 else memRead m x := by
  induction m with
  | nil => simp [memZero]
  | cons c m ih =>
    obtain ⟨a, b⟩ := c
    have hz : memZero ((a, b) :: m) lo hi = if lo ≤ a ∧ a < hi then memZero m lo hi else (a, b) :: memZero m lo hi := by
      simp only [memZero, List.filter_cons, ← Bool.decide_and]
      by_cases h : lo ≤ a ∧ a < hi <;> simp [h]
    rw [hz]
    by_cases h : lo ≤ a ∧ a < hi
    · rw [if_pos h, ih, memRead_cons]
      split
      · rfl
      · next hx => rw [if_neg]; rintro rfl; exact hx h
    · rw [if_neg h, memRead_cons, memRead_cons, ih]
      by_cases hxa : x = a
      · subst hxa; simp [h]
      · simp [hxa]

/-! ### Bytes scattered -/

/-- Scattered writes keep the canonical form. -/
theorem memScatter_wf {m : Memory} (hm : Memory.wf m) (a stride : Nat) (bs : List Byte) :
    Memory.wf (memScatter m a stride bs) := by
  induction bs generalizing m a with
  | nil => exact hm
  | cons b bs ih => exact ih (memWrite_wf hm a b) (a + stride)

/-- Scattered writes leave every byte below the first offset as it was. -/
theorem memRead_memScatter_below (m : Memory) {a x : Nat} (stride : Nat) (bs : List Byte) (h : x < a) :
    memRead (memScatter m a stride bs) x = memRead m x := by
  induction bs generalizing m a with
  | nil => rfl
  | cons b bs ih =>
    rw [memScatter, ih _ (by omega), memRead_memWrite_other _ _ (by omega)]

/-- Scattered writes leave every byte at none of their offsets as it was. -/
theorem memRead_memScatter_other (m : Memory) {a x : Nat} (stride : Nat) (bs : List Byte)
    (h : ∀ i < bs.length, x ≠ a + i * stride) : memRead (memScatter m a stride bs) x = memRead m x := by
  induction bs generalizing m a with
  | nil => rfl
  | cons b bs ih =>
    have h0 : x ≠ a := by simpa using h 0 (by simp)
    rw [memScatter, ih _ fun i hi => ?_, memRead_memWrite_other _ _ h0]
    have := h (i + 1) (by simpa using hi)
    rwa [Nat.succ_mul, Nat.add_comm (i * stride), ← Nat.add_assoc] at this

/-! ### The input windows -/

/-- A lane keeps the canonical form. -/
theorem writeLane_wf {m : Memory} (hm : Memory.wf m) (base cap i : Nat) (b : Byte) : Memory.wf (writeLane base cap i b m) := by
  unfold writeLane; split
  · exact memWrite_wf hm _ _
  · exact hm

/-- A window word keeps the canonical form. -/
theorem writeWindow_wf {m : Memory} (hm : Memory.wf m) (base cap k : Nat) (v : Word) :
    Memory.wf (writeWindow base cap k v m) :=
  writeLane_wf (writeLane_wf (writeLane_wf (writeLane_wf hm ..) ..) ..) ..

/-- What a read gives after one lane: the lane's byte at its place below the capacity, else what was there. -/
theorem memRead_writeLane {m : Memory} (hm : Memory.wf m) (base cap i : Nat) (b : Byte) (x : Nat) :
    memRead (writeLane base cap i b m) x = if x = base + i ∧ i < cap then b else memRead m x := by
  unfold writeLane
  by_cases hi : i < cap
  · by_cases hx : x = base + i
    · subst hx; simp [hi, memRead_memWrite_same hm]
    · simp [hi, hx, memRead_memWrite_other]
  · simp [hi]

/-- The bytes a window word stores, and that every other byte stays: byte j of the word at byte 4k + j of the buffer, below
the capacity. -/
theorem memRead_writeWindow {m : Memory} (hm : Memory.wf m) (base cap k : Nat) (v : Word) (x : Nat) :
    memRead (writeWindow base cap k v m) x =
      if base + 4 * k ≤ x ∧ x < base + 4 * k + 4 ∧ x < base + cap then byteOf v (x - (base + 4 * k)) else memRead m x := by
  have h1 := writeLane_wf hm base cap (4 * k) (byteOf v 0)
  have h2 := writeLane_wf h1 base cap (4 * k + 1) (byteOf v 1)
  have h3 := writeLane_wf h2 base cap (4 * k + 2) (byteOf v 2)
  rw [writeWindow, memRead_writeLane h3, memRead_writeLane h2, memRead_writeLane h1, memRead_writeLane hm]
  by_cases hx : base + 4 * k ≤ x ∧ x < base + 4 * k + 4
  · obtain ⟨j, rfl⟩ := Nat.exists_eq_add_of_le hx.1
    have hj : j < 4 := by omega
    have hs : base + 4 * k + j - (base + 4 * k) = j := by omega
    rw [hs]
    interval_cases j <;> by_cases hc : 4 * k < cap <;> simp <;> grind
  · rw [if_neg (by omega), if_neg (by omega), if_neg (by omega), if_neg (by omega), if_neg (by omega)]

/-! ### The memory after reset -/

theorem reset_mem_wf (p : Params) : Memory.wf (State.resetWith p).mem := ⟨List.Pairwise.nil, fun c hc => by cases hc⟩

end Sys2Proof.Machine
end

