-- ==== Sys2Proof/Laws/State.lean ====
section
/-! SUPPORT. For each named update of the state, what every field holds after it, so that no proof unfolds a record update.
In each section the fields stand in the order of `State`. -/

namespace Sys2Proof.Machine

/-! ### A write that completes on the bus. -/

section
variable (s : State)

@[simp] theorem State.ack_pwLen : s.ack.pwLen = s.pwLen := rfl
@[simp] theorem State.ack_saltLen : s.ack.saltLen = s.saltLen := rfl
@[simp] theorem State.ack_outLen : s.ack.outLen = s.outLen := rfl
@[simp] theorem State.ack_rounds : s.ack.rounds = s.rounds := rfl
@[simp] theorem State.ack_ieDone : s.ack.ieDone = s.ieDone := rfl
@[simp] theorem State.ack_ieErr : s.ack.ieErr = s.ieErr := rfl
@[simp] theorem State.ack_done : s.ack.done = s.done := rfl
@[simp] theorem State.ack_err : s.ack.err = s.err := rfl
@[simp] theorem State.ack_cmdErr : s.ack.cmdErr = s.cmdErr := rfl
@[simp] theorem State.ack_wErr : s.ack.wErr = s.wErr := rfl
@[simp] theorem State.ack_abortP : s.ack.abortP = s.abortP := rfl
@[simp] theorem State.ack_errCode : s.ack.errCode = s.errCode := rfl
@[simp] theorem State.ack_st : s.ack.st = s.st := rfl
@[simp] theorem State.ack_outstanding : s.ack.outstanding = s.outstanding := rfl
@[simp] theorem State.ack_blkCnt : s.ack.blkCnt = s.blkCnt := rfl
@[simp] theorem State.ack_rndCnt : s.ack.rndCnt = s.rndCnt := rfl
@[simp] theorem State.ack_stride : s.ack.stride = s.stride := rfl
@[simp] theorem State.ack_amt : s.ack.amt = s.amt := rfl
@[simp] theorem State.ack_remain : s.ack.remain = s.remain := rfl
@[simp] theorem State.ack_iter : s.ack.iter = s.iter := rfl
@[simp] theorem State.ack_pd : s.ack.pd = s.pd := rfl
@[simp] theorem State.ack_sd : s.ack.sd = s.sd := rfl
@[simp] theorem State.ack_block : s.ack.block = s.block := rfl
@[simp] theorem State.ack_prev : s.ack.prev = s.prev := rfl
@[simp] theorem State.ack_cw : s.ack.cw = s.cw := rfl
@[simp] theorem State.ack_mem : s.ack.mem = s.mem := rfl
@[simp] theorem State.ack_sReq : s.ack.sReq = s.sReq := rfl
@[simp] theorem State.ack_sRsp : s.ack.sRsp = s.sRsp := rfl
@[simp] theorem State.ack_bReq : s.ack.bReq = s.bReq := rfl
@[simp] theorem State.ack_bRsp : s.ack.bRsp = s.bRsp := rfl
@[simp] theorem State.ack_sAcc : s.ack.sAcc = s.sAcc := rfl
@[simp] theorem State.ack_mu : s.ack.mu = s.mu := rfl
@[simp] theorem State.ack_bAcc : s.ack.bAcc = s.bAcc := rfl
@[simp] theorem State.ack_sigma : s.ack.sigma = s.sigma := rfl
@[simp] theorem State.ack_busRsp : s.ack.busRsp = .written := rfl
@[simp] theorem State.ack_params : s.ack.params = s.params := rfl
@[simp] theorem State.ack_agenda : s.ack.agenda = s.agenda := rfl
@[simp] theorem State.ack_errDraw : s.ack.errDraw = s.errDraw := rfl
@[simp] theorem State.ack_drawn : s.ack.drawn = s.drawn := rfl

end

/-! ### A dropped write (R83, R91). -/

section
variable (s : State)

@[simp] theorem State.dropWrite_pwLen : s.dropWrite.pwLen = s.pwLen := rfl
@[simp] theorem State.dropWrite_saltLen : s.dropWrite.saltLen = s.saltLen := rfl
@[simp] theorem State.dropWrite_outLen : s.dropWrite.outLen = s.outLen := rfl
@[simp] theorem State.dropWrite_rounds : s.dropWrite.rounds = s.rounds := rfl
@[simp] theorem State.dropWrite_ieDone : s.dropWrite.ieDone = s.ieDone := rfl
@[simp] theorem State.dropWrite_ieErr : s.dropWrite.ieErr = s.ieErr := rfl
@[simp] theorem State.dropWrite_done : s.dropWrite.done = s.done := rfl
@[simp] theorem State.dropWrite_err : s.dropWrite.err = s.err := rfl
@[simp] theorem State.dropWrite_cmdErr : s.dropWrite.cmdErr = s.cmdErr := rfl
@[simp] theorem State.dropWrite_wErr : s.dropWrite.wErr = true := rfl
@[simp] theorem State.dropWrite_abortP : s.dropWrite.abortP = s.abortP := rfl
@[simp] theorem State.dropWrite_errCode : s.dropWrite.errCode = s.errCode := rfl
@[simp] theorem State.dropWrite_st : s.dropWrite.st = s.st := rfl
@[simp] theorem State.dropWrite_outstanding : s.dropWrite.outstanding = s.outstanding := rfl
@[simp] theorem State.dropWrite_blkCnt : s.dropWrite.blkCnt = s.blkCnt := rfl
@[simp] theorem State.dropWrite_rndCnt : s.dropWrite.rndCnt = s.rndCnt := rfl
@[simp] theorem State.dropWrite_stride : s.dropWrite.stride = s.stride := rfl
@[simp] theorem State.dropWrite_amt : s.dropWrite.amt = s.amt := rfl
@[simp] theorem State.dropWrite_remain : s.dropWrite.remain = s.remain := rfl
@[simp] theorem State.dropWrite_iter : s.dropWrite.iter = s.iter := rfl
@[simp] theorem State.dropWrite_pd : s.dropWrite.pd = s.pd := rfl
@[simp] theorem State.dropWrite_sd : s.dropWrite.sd = s.sd := rfl
@[simp] theorem State.dropWrite_block : s.dropWrite.block = s.block := rfl
@[simp] theorem State.dropWrite_prev : s.dropWrite.prev = s.prev := rfl
@[simp] theorem State.dropWrite_cw : s.dropWrite.cw = s.cw := rfl
@[simp] theorem State.dropWrite_mem : s.dropWrite.mem = s.mem := rfl
@[simp] theorem State.dropWrite_sReq : s.dropWrite.sReq = s.sReq := rfl
@[simp] theorem State.dropWrite_sRsp : s.dropWrite.sRsp = s.sRsp := rfl
@[simp] theorem State.dropWrite_bReq : s.dropWrite.bReq = s.bReq := rfl
@[simp] theorem State.dropWrite_bRsp : s.dropWrite.bRsp = s.bRsp := rfl
@[simp] theorem State.dropWrite_sAcc : s.dropWrite.sAcc = s.sAcc := rfl
@[simp] theorem State.dropWrite_mu : s.dropWrite.mu = s.mu := rfl
@[simp] theorem State.dropWrite_bAcc : s.dropWrite.bAcc = s.bAcc := rfl
@[simp] theorem State.dropWrite_sigma : s.dropWrite.sigma = s.sigma := rfl
@[simp] theorem State.dropWrite_busRsp : s.dropWrite.busRsp = s.busRsp := rfl
@[simp] theorem State.dropWrite_params : s.dropWrite.params = s.params := rfl
@[simp] theorem State.dropWrite_agenda : s.dropWrite.agenda = s.agenda := rfl
@[simp] theorem State.dropWrite_errDraw : s.dropWrite.errDraw = s.errDraw := rfl
@[simp] theorem State.dropWrite_drawn : s.dropWrite.drawn = s.drawn := rfl

end

/-! ### A rejected command (R63, R88, R90). -/

section
variable (s : State)

@[simp] theorem State.rejectCmd_pwLen : s.rejectCmd.pwLen = s.pwLen := rfl
@[simp] theorem State.rejectCmd_saltLen : s.rejectCmd.saltLen = s.saltLen := rfl
@[simp] theorem State.rejectCmd_outLen : s.rejectCmd.outLen = s.outLen := rfl
@[simp] theorem State.rejectCmd_rounds : s.rejectCmd.rounds = s.rounds := rfl
@[simp] theorem State.rejectCmd_ieDone : s.rejectCmd.ieDone = s.ieDone := rfl
@[simp] theorem State.rejectCmd_ieErr : s.rejectCmd.ieErr = s.ieErr := rfl
@[simp] theorem State.rejectCmd_done : s.rejectCmd.done = s.done := rfl
@[simp] theorem State.rejectCmd_err : s.rejectCmd.err = s.err := rfl
@[simp] theorem State.rejectCmd_cmdErr : s.rejectCmd.cmdErr = true := rfl
@[simp] theorem State.rejectCmd_wErr : s.rejectCmd.wErr = s.wErr := rfl
@[simp] theorem State.rejectCmd_abortP : s.rejectCmd.abortP = s.abortP := rfl
@[simp] theorem State.rejectCmd_errCode : s.rejectCmd.errCode = s.errCode := rfl
@[simp] theorem State.rejectCmd_st : s.rejectCmd.st = s.st := rfl
@[simp] theorem State.rejectCmd_outstanding : s.rejectCmd.outstanding = s.outstanding := rfl
@[simp] theorem State.rejectCmd_blkCnt : s.rejectCmd.blkCnt = s.blkCnt := rfl
@[simp] theorem State.rejectCmd_rndCnt : s.rejectCmd.rndCnt = s.rndCnt := rfl
@[simp] theorem State.rejectCmd_stride : s.rejectCmd.stride = s.stride := rfl
@[simp] theorem State.rejectCmd_amt : s.rejectCmd.amt = s.amt := rfl
@[simp] theorem State.rejectCmd_remain : s.rejectCmd.remain = s.remain := rfl
@[simp] theorem State.rejectCmd_iter : s.rejectCmd.iter = s.iter := rfl
@[simp] theorem State.rejectCmd_pd : s.rejectCmd.pd = s.pd := rfl
@[simp] theorem State.rejectCmd_sd : s.rejectCmd.sd = s.sd := rfl
@[simp] theorem State.rejectCmd_block : s.rejectCmd.block = s.block := rfl
@[simp] theorem State.rejectCmd_prev : s.rejectCmd.prev = s.prev := rfl
@[simp] theorem State.rejectCmd_cw : s.rejectCmd.cw = s.cw := rfl
@[simp] theorem State.rejectCmd_mem : s.rejectCmd.mem = s.mem := rfl
@[simp] theorem State.rejectCmd_sReq : s.rejectCmd.sReq = s.sReq := rfl
@[simp] theorem State.rejectCmd_sRsp : s.rejectCmd.sRsp = s.sRsp := rfl
@[simp] theorem State.rejectCmd_bReq : s.rejectCmd.bReq = s.bReq := rfl
@[simp] theorem State.rejectCmd_bRsp : s.rejectCmd.bRsp = s.bRsp := rfl
@[simp] theorem State.rejectCmd_sAcc : s.rejectCmd.sAcc = s.sAcc := rfl
@[simp] theorem State.rejectCmd_mu : s.rejectCmd.mu = s.mu := rfl
@[simp] theorem State.rejectCmd_bAcc : s.rejectCmd.bAcc = s.bAcc := rfl
@[simp] theorem State.rejectCmd_sigma : s.rejectCmd.sigma = s.sigma := rfl
@[simp] theorem State.rejectCmd_busRsp : s.rejectCmd.busRsp = s.busRsp := rfl
@[simp] theorem State.rejectCmd_params : s.rejectCmd.params = s.params := rfl
@[simp] theorem State.rejectCmd_agenda : s.rejectCmd.agenda = s.agenda := rfl
@[simp] theorem State.rejectCmd_errDraw : s.rejectCmd.errDraw = s.errDraw := rfl
@[simp] theorem State.rejectCmd_drawn : s.rejectCmd.drawn = s.drawn := rfl

end

/-! ### OUTBUF zeroed (R88, R90, R196). -/

section
variable (s : State)

@[simp] theorem State.zeroOut_pwLen : s.zeroOut.pwLen = s.pwLen := rfl
@[simp] theorem State.zeroOut_saltLen : s.zeroOut.saltLen = s.saltLen := rfl
@[simp] theorem State.zeroOut_outLen : s.zeroOut.outLen = s.outLen := rfl
@[simp] theorem State.zeroOut_rounds : s.zeroOut.rounds = s.rounds := rfl
@[simp] theorem State.zeroOut_ieDone : s.zeroOut.ieDone = s.ieDone := rfl
@[simp] theorem State.zeroOut_ieErr : s.zeroOut.ieErr = s.ieErr := rfl
@[simp] theorem State.zeroOut_done : s.zeroOut.done = s.done := rfl
@[simp] theorem State.zeroOut_err : s.zeroOut.err = s.err := rfl
@[simp] theorem State.zeroOut_cmdErr : s.zeroOut.cmdErr = s.cmdErr := rfl
@[simp] theorem State.zeroOut_wErr : s.zeroOut.wErr = s.wErr := rfl
@[simp] theorem State.zeroOut_abortP : s.zeroOut.abortP = s.abortP := rfl
@[simp] theorem State.zeroOut_errCode : s.zeroOut.errCode = s.errCode := rfl
@[simp] theorem State.zeroOut_st : s.zeroOut.st = s.st := rfl
@[simp] theorem State.zeroOut_outstanding : s.zeroOut.outstanding = s.outstanding := rfl
@[simp] theorem State.zeroOut_blkCnt : s.zeroOut.blkCnt = s.blkCnt := rfl
@[simp] theorem State.zeroOut_rndCnt : s.zeroOut.rndCnt = s.rndCnt := rfl
@[simp] theorem State.zeroOut_stride : s.zeroOut.stride = s.stride := rfl
@[simp] theorem State.zeroOut_amt : s.zeroOut.amt = s.amt := rfl
@[simp] theorem State.zeroOut_remain : s.zeroOut.remain = s.remain := rfl
@[simp] theorem State.zeroOut_iter : s.zeroOut.iter = s.iter := rfl
@[simp] theorem State.zeroOut_pd : s.zeroOut.pd = s.pd := rfl
@[simp] theorem State.zeroOut_sd : s.zeroOut.sd = s.sd := rfl
@[simp] theorem State.zeroOut_block : s.zeroOut.block = s.block := rfl
@[simp] theorem State.zeroOut_prev : s.zeroOut.prev = s.prev := rfl
@[simp] theorem State.zeroOut_cw : s.zeroOut.cw = s.cw := rfl
@[simp] theorem State.zeroOut_mem : s.zeroOut.mem = memZero s.mem outBase (outBase + outBytes) := rfl
@[simp] theorem State.zeroOut_sReq : s.zeroOut.sReq = s.sReq := rfl
@[simp] theorem State.zeroOut_sRsp : s.zeroOut.sRsp = s.sRsp := rfl
@[simp] theorem State.zeroOut_bReq : s.zeroOut.bReq = s.bReq := rfl
@[simp] theorem State.zeroOut_bRsp : s.zeroOut.bRsp = s.bRsp := rfl
@[simp] theorem State.zeroOut_sAcc : s.zeroOut.sAcc = s.sAcc := rfl
@[simp] theorem State.zeroOut_mu : s.zeroOut.mu = s.mu := rfl
@[simp] theorem State.zeroOut_bAcc : s.zeroOut.bAcc = s.bAcc := rfl
@[simp] theorem State.zeroOut_sigma : s.zeroOut.sigma = s.sigma := rfl
@[simp] theorem State.zeroOut_busRsp : s.zeroOut.busRsp = s.busRsp := rfl
@[simp] theorem State.zeroOut_params : s.zeroOut.params = s.params := rfl
@[simp] theorem State.zeroOut_agenda : s.zeroOut.agenda = s.agenda := rfl
@[simp] theorem State.zeroOut_errDraw : s.zeroOut.errDraw = s.errDraw := rfl
@[simp] theorem State.zeroOut_drawn : s.zeroOut.drawn = s.drawn := rfl

end

/-! ### The input buffers and lengths zeroed (R90, R171, R196). -/

section
variable (s : State)

@[simp] theorem State.zeroInputs_pwLen : s.zeroInputs.pwLen = 0 := rfl
@[simp] theorem State.zeroInputs_saltLen : s.zeroInputs.saltLen = 0 := rfl
@[simp] theorem State.zeroInputs_outLen : s.zeroInputs.outLen = s.outLen := rfl
@[simp] theorem State.zeroInputs_rounds : s.zeroInputs.rounds = s.rounds := rfl
@[simp] theorem State.zeroInputs_ieDone : s.zeroInputs.ieDone = s.ieDone := rfl
@[simp] theorem State.zeroInputs_ieErr : s.zeroInputs.ieErr = s.ieErr := rfl
@[simp] theorem State.zeroInputs_done : s.zeroInputs.done = s.done := rfl
@[simp] theorem State.zeroInputs_err : s.zeroInputs.err = s.err := rfl
@[simp] theorem State.zeroInputs_cmdErr : s.zeroInputs.cmdErr = s.cmdErr := rfl
@[simp] theorem State.zeroInputs_wErr : s.zeroInputs.wErr = s.wErr := rfl
@[simp] theorem State.zeroInputs_abortP : s.zeroInputs.abortP = s.abortP := rfl
@[simp] theorem State.zeroInputs_errCode : s.zeroInputs.errCode = s.errCode := rfl
@[simp] theorem State.zeroInputs_st : s.zeroInputs.st = s.st := rfl
@[simp] theorem State.zeroInputs_outstanding : s.zeroInputs.outstanding = s.outstanding := rfl
@[simp] theorem State.zeroInputs_blkCnt : s.zeroInputs.blkCnt = s.blkCnt := rfl
@[simp] theorem State.zeroInputs_rndCnt : s.zeroInputs.rndCnt = s.rndCnt := rfl
@[simp] theorem State.zeroInputs_stride : s.zeroInputs.stride = s.stride := rfl
@[simp] theorem State.zeroInputs_amt : s.zeroInputs.amt = s.amt := rfl
@[simp] theorem State.zeroInputs_remain : s.zeroInputs.remain = s.remain := rfl
@[simp] theorem State.zeroInputs_iter : s.zeroInputs.iter = s.iter := rfl
@[simp] theorem State.zeroInputs_pd : s.zeroInputs.pd = s.pd := rfl
@[simp] theorem State.zeroInputs_sd : s.zeroInputs.sd = s.sd := rfl
@[simp] theorem State.zeroInputs_block : s.zeroInputs.block = s.block := rfl
@[simp] theorem State.zeroInputs_prev : s.zeroInputs.prev = s.prev := rfl
@[simp] theorem State.zeroInputs_cw : s.zeroInputs.cw = s.cw := rfl
@[simp] theorem State.zeroInputs_mem :
    s.zeroInputs.mem = memZero (memZero s.mem pwBase (pwBase + s.params.pwMax)) saltBase (saltBase + s.params.saltMax) := rfl
@[simp] theorem State.zeroInputs_sReq : s.zeroInputs.sReq = s.sReq := rfl
@[simp] theorem State.zeroInputs_sRsp : s.zeroInputs.sRsp = s.sRsp := rfl
@[simp] theorem State.zeroInputs_bReq : s.zeroInputs.bReq = s.bReq := rfl
@[simp] theorem State.zeroInputs_bRsp : s.zeroInputs.bRsp = s.bRsp := rfl
@[simp] theorem State.zeroInputs_sAcc : s.zeroInputs.sAcc = s.sAcc := rfl
@[simp] theorem State.zeroInputs_mu : s.zeroInputs.mu = s.mu := rfl
@[simp] theorem State.zeroInputs_bAcc : s.zeroInputs.bAcc = s.bAcc := rfl
@[simp] theorem State.zeroInputs_sigma : s.zeroInputs.sigma = s.sigma := rfl
@[simp] theorem State.zeroInputs_busRsp : s.zeroInputs.busRsp = s.busRsp := rfl
@[simp] theorem State.zeroInputs_params : s.zeroInputs.params = s.params := rfl
@[simp] theorem State.zeroInputs_agenda : s.zeroInputs.agenda = s.agenda := rfl
@[simp] theorem State.zeroInputs_errDraw : s.zeroInputs.errDraw = s.errDraw := rfl
@[simp] theorem State.zeroInputs_drawn : s.zeroInputs.drawn = s.drawn := rfl

end

/-! ### Every secret zeroed (R171, R196). -/

section
variable (s : State)

@[simp] theorem State.zeroSecrets_pwLen : s.zeroSecrets.pwLen = 0 := rfl
@[simp] theorem State.zeroSecrets_saltLen : s.zeroSecrets.saltLen = 0 := rfl
@[simp] theorem State.zeroSecrets_outLen : s.zeroSecrets.outLen = s.outLen := rfl
@[simp] theorem State.zeroSecrets_rounds : s.zeroSecrets.rounds = s.rounds := rfl
@[simp] theorem State.zeroSecrets_ieDone : s.zeroSecrets.ieDone = s.ieDone := rfl
@[simp] theorem State.zeroSecrets_ieErr : s.zeroSecrets.ieErr = s.ieErr := rfl
@[simp] theorem State.zeroSecrets_done : s.zeroSecrets.done = s.done := rfl
@[simp] theorem State.zeroSecrets_err : s.zeroSecrets.err = s.err := rfl
@[simp] theorem State.zeroSecrets_cmdErr : s.zeroSecrets.cmdErr = s.cmdErr := rfl
@[simp] theorem State.zeroSecrets_wErr : s.zeroSecrets.wErr = s.wErr := rfl
@[simp] theorem State.zeroSecrets_abortP : s.zeroSecrets.abortP = s.abortP := rfl
@[simp] theorem State.zeroSecrets_errCode : s.zeroSecrets.errCode = s.errCode := rfl
@[simp] theorem State.zeroSecrets_st : s.zeroSecrets.st = s.st := rfl
@[simp] theorem State.zeroSecrets_outstanding : s.zeroSecrets.outstanding = s.outstanding := rfl
@[simp] theorem State.zeroSecrets_blkCnt : s.zeroSecrets.blkCnt = 0 := rfl
@[simp] theorem State.zeroSecrets_rndCnt : s.zeroSecrets.rndCnt = 0 := rfl
@[simp] theorem State.zeroSecrets_stride : s.zeroSecrets.stride = 0 := rfl
@[simp] theorem State.zeroSecrets_amt : s.zeroSecrets.amt = 0 := rfl
@[simp] theorem State.zeroSecrets_remain : s.zeroSecrets.remain = 0 := rfl
@[simp] theorem State.zeroSecrets_iter : s.zeroSecrets.iter = 0 := rfl
@[simp] theorem State.zeroSecrets_pd : s.zeroSecrets.pd = zero64 := rfl
@[simp] theorem State.zeroSecrets_sd : s.zeroSecrets.sd = zero64 := rfl
@[simp] theorem State.zeroSecrets_block : s.zeroSecrets.block = zero32 := rfl
@[simp] theorem State.zeroSecrets_prev : s.zeroSecrets.prev = zero32 := rfl
@[simp] theorem State.zeroSecrets_cw : s.zeroSecrets.cw = zeroW := rfl
@[simp] theorem State.zeroSecrets_mem :
    s.zeroSecrets.mem = memZero (memZero s.mem pwBase (pwBase + s.params.pwMax)) saltBase (saltBase + s.params.saltMax) := rfl
@[simp] theorem State.zeroSecrets_sReq : s.zeroSecrets.sReq = s.sReq := rfl
@[simp] theorem State.zeroSecrets_sRsp : s.zeroSecrets.sRsp = s.sRsp := rfl
@[simp] theorem State.zeroSecrets_bReq : s.zeroSecrets.bReq = s.bReq := rfl
@[simp] theorem State.zeroSecrets_bRsp : s.zeroSecrets.bRsp = s.bRsp := rfl
@[simp] theorem State.zeroSecrets_sAcc : s.zeroSecrets.sAcc = s.sAcc := rfl
@[simp] theorem State.zeroSecrets_mu : s.zeroSecrets.mu = s.mu := rfl
@[simp] theorem State.zeroSecrets_bAcc : s.zeroSecrets.bAcc = s.bAcc := rfl
@[simp] theorem State.zeroSecrets_sigma : s.zeroSecrets.sigma = s.sigma := rfl
@[simp] theorem State.zeroSecrets_busRsp : s.zeroSecrets.busRsp = s.busRsp := rfl
@[simp] theorem State.zeroSecrets_params : s.zeroSecrets.params = s.params := rfl
@[simp] theorem State.zeroSecrets_agenda : s.zeroSecrets.agenda = s.agenda := rfl
@[simp] theorem State.zeroSecrets_errDraw : s.zeroSecrets.errDraw = s.errDraw := rfl
@[simp] theorem State.zeroSecrets_drawn : s.zeroSecrets.drawn = s.drawn := rfl

end

/-! ### A host write to STATUS (R85). -/

section
variable (v : Word) (s : State)

@[simp] theorem State.clearFlags_pwLen : (s.clearFlags v).pwLen = s.pwLen := rfl
@[simp] theorem State.clearFlags_saltLen : (s.clearFlags v).saltLen = s.saltLen := rfl
@[simp] theorem State.clearFlags_outLen : (s.clearFlags v).outLen = s.outLen := rfl
@[simp] theorem State.clearFlags_rounds : (s.clearFlags v).rounds = s.rounds := rfl
@[simp] theorem State.clearFlags_ieDone : (s.clearFlags v).ieDone = s.ieDone := rfl
@[simp] theorem State.clearFlags_ieErr : (s.clearFlags v).ieErr = s.ieErr := rfl
@[simp] theorem State.clearFlags_done : (s.clearFlags v).done = (s.done && !v.getLsbD 1) := rfl
@[simp] theorem State.clearFlags_err : (s.clearFlags v).err = (s.err && !v.getLsbD 2) := rfl
@[simp] theorem State.clearFlags_cmdErr : (s.clearFlags v).cmdErr = (s.cmdErr && !v.getLsbD 3) := rfl
@[simp] theorem State.clearFlags_wErr : (s.clearFlags v).wErr = (s.wErr && !v.getLsbD 4) := rfl
@[simp] theorem State.clearFlags_abortP : (s.clearFlags v).abortP = s.abortP := rfl
@[simp] theorem State.clearFlags_errCode : (s.clearFlags v).errCode = s.errCode := rfl
@[simp] theorem State.clearFlags_st : (s.clearFlags v).st = s.st := rfl
@[simp] theorem State.clearFlags_outstanding : (s.clearFlags v).outstanding = s.outstanding := rfl
@[simp] theorem State.clearFlags_blkCnt : (s.clearFlags v).blkCnt = s.blkCnt := rfl
@[simp] theorem State.clearFlags_rndCnt : (s.clearFlags v).rndCnt = s.rndCnt := rfl
@[simp] theorem State.clearFlags_stride : (s.clearFlags v).stride = s.stride := rfl
@[simp] theorem State.clearFlags_amt : (s.clearFlags v).amt = s.amt := rfl
@[simp] theorem State.clearFlags_remain : (s.clearFlags v).remain = s.remain := rfl
@[simp] theorem State.clearFlags_iter : (s.clearFlags v).iter = s.iter := rfl
@[simp] theorem State.clearFlags_pd : (s.clearFlags v).pd = s.pd := rfl
@[simp] theorem State.clearFlags_sd : (s.clearFlags v).sd = s.sd := rfl
@[simp] theorem State.clearFlags_block : (s.clearFlags v).block = s.block := rfl
@[simp] theorem State.clearFlags_prev : (s.clearFlags v).prev = s.prev := rfl
@[simp] theorem State.clearFlags_cw : (s.clearFlags v).cw = s.cw := rfl
@[simp] theorem State.clearFlags_mem : (s.clearFlags v).mem = s.mem := rfl
@[simp] theorem State.clearFlags_sReq : (s.clearFlags v).sReq = s.sReq := rfl
@[simp] theorem State.clearFlags_sRsp : (s.clearFlags v).sRsp = s.sRsp := rfl
@[simp] theorem State.clearFlags_bReq : (s.clearFlags v).bReq = s.bReq := rfl
@[simp] theorem State.clearFlags_bRsp : (s.clearFlags v).bRsp = s.bRsp := rfl
@[simp] theorem State.clearFlags_sAcc : (s.clearFlags v).sAcc = s.sAcc := rfl
@[simp] theorem State.clearFlags_mu : (s.clearFlags v).mu = s.mu := rfl
@[simp] theorem State.clearFlags_bAcc : (s.clearFlags v).bAcc = s.bAcc := rfl
@[simp] theorem State.clearFlags_sigma : (s.clearFlags v).sigma = s.sigma := rfl
@[simp] theorem State.clearFlags_busRsp : (s.clearFlags v).busRsp = s.busRsp := rfl
@[simp] theorem State.clearFlags_params : (s.clearFlags v).params = s.params := rfl
@[simp] theorem State.clearFlags_agenda : (s.clearFlags v).agenda = s.agenda := rfl
@[simp] theorem State.clearFlags_errDraw : (s.clearFlags v).errDraw = s.errDraw := rfl
@[simp] theorem State.clearFlags_drawn : (s.clearFlags v).drawn = s.drawn := rfl

end

/-! ### The error entry (R186). -/

section
variable (e : ErrKind) (info : BitVec 8) (f : SeqState) (s : State)

@[simp] theorem State.raiseFault_pwLen : (s.raiseFault e info f).pwLen = s.pwLen := rfl
@[simp] theorem State.raiseFault_saltLen : (s.raiseFault e info f).saltLen = s.saltLen := rfl
@[simp] theorem State.raiseFault_outLen : (s.raiseFault e info f).outLen = s.outLen := rfl
@[simp] theorem State.raiseFault_rounds : (s.raiseFault e info f).rounds = s.rounds := rfl
@[simp] theorem State.raiseFault_ieDone : (s.raiseFault e info f).ieDone = s.ieDone := rfl
@[simp] theorem State.raiseFault_ieErr : (s.raiseFault e info f).ieErr = s.ieErr := rfl
@[simp] theorem State.raiseFault_done : (s.raiseFault e info f).done = s.done := rfl
@[simp] theorem State.raiseFault_err : (s.raiseFault e info f).err = s.err := rfl
@[simp] theorem State.raiseFault_cmdErr : (s.raiseFault e info f).cmdErr = s.cmdErr := rfl
@[simp] theorem State.raiseFault_wErr : (s.raiseFault e info f).wErr = s.wErr := rfl
@[simp] theorem State.raiseFault_abortP : (s.raiseFault e info f).abortP = s.abortP := rfl
@[simp] theorem State.raiseFault_errCode : (s.raiseFault e info f).errCode = errCodeWord e info f := rfl
@[simp] theorem State.raiseFault_st :
    (s.raiseFault e info f).st = if e = .invalidParameter then .errZero else .errSclr := rfl
@[simp] theorem State.raiseFault_outstanding : (s.raiseFault e info f).outstanding = s.outstanding := rfl
@[simp] theorem State.raiseFault_blkCnt : (s.raiseFault e info f).blkCnt = s.blkCnt := rfl
@[simp] theorem State.raiseFault_rndCnt : (s.raiseFault e info f).rndCnt = s.rndCnt := rfl
@[simp] theorem State.raiseFault_stride : (s.raiseFault e info f).stride = s.stride := rfl
@[simp] theorem State.raiseFault_amt : (s.raiseFault e info f).amt = s.amt := rfl
@[simp] theorem State.raiseFault_remain : (s.raiseFault e info f).remain = s.remain := rfl
@[simp] theorem State.raiseFault_iter : (s.raiseFault e info f).iter = s.iter := rfl
@[simp] theorem State.raiseFault_pd : (s.raiseFault e info f).pd = s.pd := rfl
@[simp] theorem State.raiseFault_sd : (s.raiseFault e info f).sd = s.sd := rfl
@[simp] theorem State.raiseFault_block : (s.raiseFault e info f).block = s.block := rfl
@[simp] theorem State.raiseFault_prev : (s.raiseFault e info f).prev = s.prev := rfl
@[simp] theorem State.raiseFault_cw : (s.raiseFault e info f).cw = s.cw := rfl
@[simp] theorem State.raiseFault_mem : (s.raiseFault e info f).mem = s.mem := rfl
@[simp] theorem State.raiseFault_sReq : (s.raiseFault e info f).sReq = s.sReq := rfl
@[simp] theorem State.raiseFault_sRsp : (s.raiseFault e info f).sRsp = s.sRsp := rfl
@[simp] theorem State.raiseFault_bReq : (s.raiseFault e info f).bReq = s.bReq := rfl
@[simp] theorem State.raiseFault_bRsp : (s.raiseFault e info f).bRsp = s.bRsp := rfl
@[simp] theorem State.raiseFault_sAcc : (s.raiseFault e info f).sAcc = s.sAcc := rfl
@[simp] theorem State.raiseFault_mu : (s.raiseFault e info f).mu = s.mu := rfl
@[simp] theorem State.raiseFault_bAcc : (s.raiseFault e info f).bAcc = s.bAcc := rfl
@[simp] theorem State.raiseFault_sigma : (s.raiseFault e info f).sigma = s.sigma := rfl
@[simp] theorem State.raiseFault_busRsp : (s.raiseFault e info f).busRsp = s.busRsp := rfl
@[simp] theorem State.raiseFault_params : (s.raiseFault e info f).params = s.params := rfl
@[simp] theorem State.raiseFault_agenda : (s.raiseFault e info f).agenda = s.agenda := rfl
@[simp] theorem State.raiseFault_errDraw : (s.raiseFault e info f).errDraw = s.errDraw := rfl
@[simp] theorem State.raiseFault_drawn : (s.raiseFault e info f).drawn = s.drawn := rfl

end

/-! ### A pending abort taken (R191). -/

section
variable (s : State)

@[simp] theorem State.takeAbort_pwLen : s.takeAbort.pwLen = s.pwLen := rfl
@[simp] theorem State.takeAbort_saltLen : s.takeAbort.saltLen = s.saltLen := rfl
@[simp] theorem State.takeAbort_outLen : s.takeAbort.outLen = s.outLen := rfl
@[simp] theorem State.takeAbort_rounds : s.takeAbort.rounds = s.rounds := rfl
@[simp] theorem State.takeAbort_ieDone : s.takeAbort.ieDone = s.ieDone := rfl
@[simp] theorem State.takeAbort_ieErr : s.takeAbort.ieErr = s.ieErr := rfl
@[simp] theorem State.takeAbort_done : s.takeAbort.done = s.done := rfl
@[simp] theorem State.takeAbort_err : s.takeAbort.err = s.err := rfl
@[simp] theorem State.takeAbort_cmdErr : s.takeAbort.cmdErr = s.cmdErr := rfl
@[simp] theorem State.takeAbort_wErr : s.takeAbort.wErr = s.wErr := rfl
@[simp] theorem State.takeAbort_abortP : s.takeAbort.abortP = false := rfl
@[simp] theorem State.takeAbort_errCode : s.takeAbort.errCode = errCodeWord .aborted 0 s.st := rfl
@[simp] theorem State.takeAbort_st : s.takeAbort.st = .errSclr := rfl
@[simp] theorem State.takeAbort_outstanding : s.takeAbort.outstanding = s.outstanding := rfl
@[simp] theorem State.takeAbort_blkCnt : s.takeAbort.blkCnt = s.blkCnt := rfl
@[simp] theorem State.takeAbort_rndCnt : s.takeAbort.rndCnt = s.rndCnt := rfl
@[simp] theorem State.takeAbort_stride : s.takeAbort.stride = s.stride := rfl
@[simp] theorem State.takeAbort_amt : s.takeAbort.amt = s.amt := rfl
@[simp] theorem State.takeAbort_remain : s.takeAbort.remain = s.remain := rfl
@[simp] theorem State.takeAbort_iter : s.takeAbort.iter = s.iter := rfl
@[simp] theorem State.takeAbort_pd : s.takeAbort.pd = s.pd := rfl
@[simp] theorem State.takeAbort_sd : s.takeAbort.sd = s.sd := rfl
@[simp] theorem State.takeAbort_block : s.takeAbort.block = s.block := rfl
@[simp] theorem State.takeAbort_prev : s.takeAbort.prev = s.prev := rfl
@[simp] theorem State.takeAbort_cw : s.takeAbort.cw = s.cw := rfl
@[simp] theorem State.takeAbort_mem : s.takeAbort.mem = s.mem := rfl
@[simp] theorem State.takeAbort_sReq : s.takeAbort.sReq = s.sReq := rfl
@[simp] theorem State.takeAbort_sRsp : s.takeAbort.sRsp = s.sRsp := rfl
@[simp] theorem State.takeAbort_bReq : s.takeAbort.bReq = s.bReq := rfl
@[simp] theorem State.takeAbort_bRsp : s.takeAbort.bRsp = s.bRsp := rfl
@[simp] theorem State.takeAbort_sAcc : s.takeAbort.sAcc = s.sAcc := rfl
@[simp] theorem State.takeAbort_mu : s.takeAbort.mu = s.mu := rfl
@[simp] theorem State.takeAbort_bAcc : s.takeAbort.bAcc = s.bAcc := rfl
@[simp] theorem State.takeAbort_sigma : s.takeAbort.sigma = s.sigma := rfl
@[simp] theorem State.takeAbort_busRsp : s.takeAbort.busRsp = s.busRsp := rfl
@[simp] theorem State.takeAbort_params : s.takeAbort.params = s.params := rfl
@[simp] theorem State.takeAbort_agenda : s.takeAbort.agenda = s.agenda := rfl
@[simp] theorem State.takeAbort_errDraw : s.takeAbort.errDraw = s.errDraw := rfl
@[simp] theorem State.takeAbort_drawn : s.takeAbort.drawn = s.drawn := rfl

end

/-! ### The reset event (R210). -/

section
variable (s : State)

@[simp] theorem State.resetBlock_pwLen : s.resetBlock.pwLen = 0 := rfl
@[simp] theorem State.resetBlock_saltLen : s.resetBlock.saltLen = 0 := rfl
@[simp] theorem State.resetBlock_outLen : s.resetBlock.outLen = 0 := rfl
@[simp] theorem State.resetBlock_rounds : s.resetBlock.rounds = 0 := rfl
@[simp] theorem State.resetBlock_ieDone : s.resetBlock.ieDone = false := rfl
@[simp] theorem State.resetBlock_ieErr : s.resetBlock.ieErr = false := rfl
@[simp] theorem State.resetBlock_done : s.resetBlock.done = false := rfl
@[simp] theorem State.resetBlock_err : s.resetBlock.err = false := rfl
@[simp] theorem State.resetBlock_cmdErr : s.resetBlock.cmdErr = false := rfl
@[simp] theorem State.resetBlock_wErr : s.resetBlock.wErr = false := rfl
@[simp] theorem State.resetBlock_abortP : s.resetBlock.abortP = false := rfl
@[simp] theorem State.resetBlock_errCode : s.resetBlock.errCode = 0 := rfl
@[simp] theorem State.resetBlock_st : s.resetBlock.st = .idle := rfl
@[simp] theorem State.resetBlock_outstanding : s.resetBlock.outstanding = false := rfl
@[simp] theorem State.resetBlock_blkCnt : s.resetBlock.blkCnt = 0 := rfl
@[simp] theorem State.resetBlock_rndCnt : s.resetBlock.rndCnt = 0 := rfl
@[simp] theorem State.resetBlock_stride : s.resetBlock.stride = 0 := rfl
@[simp] theorem State.resetBlock_amt : s.resetBlock.amt = 0 := rfl
@[simp] theorem State.resetBlock_remain : s.resetBlock.remain = 0 := rfl
@[simp] theorem State.resetBlock_iter : s.resetBlock.iter = 0 := rfl
@[simp] theorem State.resetBlock_pd : s.resetBlock.pd = zero64 := rfl
@[simp] theorem State.resetBlock_sd : s.resetBlock.sd = zero64 := rfl
@[simp] theorem State.resetBlock_block : s.resetBlock.block = zero32 := rfl
@[simp] theorem State.resetBlock_prev : s.resetBlock.prev = zero32 := rfl
@[simp] theorem State.resetBlock_cw : s.resetBlock.cw = zeroW := rfl
@[simp] theorem State.resetBlock_mem : s.resetBlock.mem = [] := rfl
@[simp] theorem State.resetBlock_sReq : s.resetBlock.sReq = [] := rfl
@[simp] theorem State.resetBlock_sRsp : s.resetBlock.sRsp = none := rfl
@[simp] theorem State.resetBlock_bReq : s.resetBlock.bReq = none := rfl
@[simp] theorem State.resetBlock_bRsp : s.resetBlock.bRsp = none := rfl
@[simp] theorem State.resetBlock_sAcc : s.resetBlock.sAcc = [] := rfl
@[simp] theorem State.resetBlock_mu : s.resetBlock.mu = Config.freeMu s.drawn := rfl
@[simp] theorem State.resetBlock_bAcc : s.resetBlock.bAcc = none := rfl
@[simp] theorem State.resetBlock_sigma : s.resetBlock.sigma = Config.freeSigma s.drawn := rfl
@[simp] theorem State.resetBlock_busRsp : s.resetBlock.busRsp = .idle := rfl
@[simp] theorem State.resetBlock_params : s.resetBlock.params = s.params := rfl
@[simp] theorem State.resetBlock_agenda : s.resetBlock.agenda = s.agenda := rfl
@[simp] theorem State.resetBlock_errDraw : s.resetBlock.errDraw = false := rfl
@[simp] theorem State.resetBlock_drawn : s.resetBlock.drawn = s.drawn + 1 := rfl

end

end Sys2Proof.Machine
end

