-- ==== Sys2Proof/Laws/Ops.lean ====
section
/-! SUPPORT. For each shared operation one lemma that says once everything it can do. A proof cites it instead of unfolding
the operation. -/

namespace Sys2Proof.Machine

/-! ### State codes -/

/-- The 26 codes and the 26 states are one to one (spec/30_encoding.md R70). -/
theorem SeqState.ofCode_code (st : SeqState) : SeqState.ofCode st.code = some st := by cases st <;> rfl

/-- A code read back is the code (R70). -/
theorem SeqState.code_of_ofCode {c : BitVec 5} {st : SeqState} (h : SeqState.ofCode c = some st) : st.code = c := by
  revert c st; decide

/-- The code of a state decodes to the micro-step that executes it (R70, R78). -/
theorem decode_state (st : SeqState) : decode (.state st.code) = .ok st.instr := by cases st <;> rfl

/-! ### The error entry -/

/-- The error entry never leads to IDLE or back into the run (spec/60_exceptions.md R186). -/
theorem State.raiseFault_onErrorPath (e : ErrKind) (info : BitVec 8) (f : SeqState) (s : State) :
    SeqState.onErrorPath (s.raiseFault e info f).st = true := by
  cases e <;> rfl

/-- When an abort is taken (spec/41 R100, R191). -/
theorem State.abortDue_iff (s : State) :
    s.abortDue = true ↔
      s.abortP = true ∧ s.outstanding = false ∧ s.st ≠ .idle ∧ SeqState.onErrorPath s.st = false := by
  simp [State.abortDue, and_assoc]

/-! ### Issue and await -/

/-- `issue S` fills an empty slot and has no step with a full one (R101). -/
theorem State.issueS_cases (beats : List SBeat) (s : State) :
    (s.sReq = [] ∧ s.issueS beats = { s with sReq := beats, outstanding := true }) ∨
      (s.sReq ≠ [] ∧ s.issueS beats = s) := by
  by_cases h : s.sReq = [] <;> simp [State.issueS, h]

/-- `issue B` fills an empty slot and has no step with a full one (R103). -/
theorem State.issueB_cases (r : BReq) (s : State) :
    (s.bReq = none ∧ s.issueB r = { s with bReq := some r, outstanding := true }) ∨
      (s.bReq ≠ none ∧ s.issueB r = s) := by
  by_cases h : s.bReq = none <;> simp [State.issueB, h]

/-- A port S visit issues, waits, completes, or raises SHA_FAULT (R100, R102, R109, R189). -/
theorem State.visitS_cases (here : SeqState) (beats : List SBeat) (complete : Bytes64 → State → State) (s : State) :
    (s.outstanding = false ∧ s.visitS here beats complete = s.issueS beats) ∨
    (s.outstanding = true ∧ s.sRsp = none ∧ s.visitS here beats complete = s) ∨
    (∃ r, s.outstanding = true ∧ s.sRsp = some r ∧ (r.err = false ∨ SeqState.onErrorPath here = true) ∧
      s.visitS here beats complete = complete r.data { s with sRsp := none, outstanding := false }) ∨
    (∃ r, s.outstanding = true ∧ s.sRsp = some r ∧ r.err = true ∧ SeqState.onErrorPath here = false ∧
      s.visitS here beats complete =
        State.raiseFault .shaFault 0 here { s with sRsp := none, outstanding := false }) := by
  unfold State.visitS
  cases ho : s.outstanding with
  | false => simp
  | true =>
    cases hr : s.sRsp with
    | none => simp
    | some r => cases he : r.err <;> cases hp : SeqState.onErrorPath here <;> simp [he]

/-- A port B visit issues, waits, completes, or raises BF_FAULT (R100, R104, R109, R190). -/
theorem State.visitB_cases (here : SeqState) (q : BReq) (complete : Words8 → State → State) (s : State) :
    (s.outstanding = false ∧ s.visitB here q complete = s.issueB q) ∨
    (s.outstanding = true ∧ s.bRsp = none ∧ s.visitB here q complete = s) ∨
    (∃ r, s.outstanding = true ∧ s.bRsp = some r ∧ (r.err = false ∨ SeqState.onErrorPath here = true) ∧
      s.visitB here q complete = complete r.w { s with bRsp := none, outstanding := false }) ∨
    (∃ r, s.outstanding = true ∧ s.bRsp = some r ∧ r.err = true ∧ SeqState.onErrorPath here = false ∧
      s.visitB here q complete =
        State.raiseFault .bfFault 0 here { s with bRsp := none, outstanding := false }) := by
  unfold State.visitB
  cases ho : s.outstanding with
  | false => simp
  | true =>
    cases hr : s.bRsp with
    | none => simp
    | some r => cases he : r.err <;> cases hp : SeqState.onErrorPath here <;> simp [he]

/-! ### The collaborators -/

/-- The SHA-512 engine accepts a whole request if it has none, else it has no step (R101, R106). -/
theorem State.acceptS_cases (s : State) :
    (s.sReq ≠ [] ∧ s.sAcc = [] ∧ s.acceptS = { s with sAcc := s.sReq, sReq := [] }) ∨ s.acceptS = s := by
  by_cases h : s.sReq ≠ [] ∧ s.sAcc = []
  · exact .inl ⟨h.1, h.2, if_pos h⟩
  · exact .inr (if_neg h)

/-- The Blowfish-family engine accepts a request if it has none, else it has no step (R103, R107). -/
theorem State.acceptB_cases (s : State) :
    (∃ q, s.bReq = some q ∧ s.bAcc = none ∧ s.acceptB = { s with bAcc := some q, bReq := none }) ∨ s.acceptB = s := by
  unfold State.acceptB
  split
  · next q hq ha => exact .inl ⟨q, hq, ha, rfl⟩
  · exact .inr rfl

/-- An offered response is taken only while the block is ready for it (R105). -/
theorem State.offerS_cases (r : SRsp) (s : State) :
    (s.outstanding = true ∧ s.st.port = .portS ∧ s.sRsp = none ∧ s.offerS r = { s with sRsp := some r }) ∨
      s.offerS r = s := by
  by_cases h : s.sRspReady = true ∧ s.sRsp = none
  · refine .inl ⟨?_, ?_, h.2, if_pos h⟩ <;> have := h.1 <;> simp_all [State.sRspReady]
  · exact .inr (if_neg h)

/-- An offered response is taken only while the block is ready for it (R105). -/
theorem State.offerB_cases (r : BRsp) (s : State) :
    (s.outstanding = true ∧ s.st.port = .portB ∧ s.bRsp = none ∧ s.offerB r = { s with bRsp := some r }) ∨
      s.offerB r = s := by
  by_cases h : s.bRspReady = true ∧ s.bRsp = none
  · refine .inl ⟨?_, ?_, h.2, if_pos h⟩ <;> have := h.1 <;> simp_all [State.bRspReady]
  · exact .inr (if_neg h)

/-- An answer of the SHA-512 engine ends its request, sets its context, and gives the block at most a response (R106, R108). -/
theorem State.answerS_cases (mu : Mu) (d : Bytes64) (s : State) :
    ∃ mu' rsp, s.answerS mu d = { s with sAcc := [], mu := mu', sRsp := rsp, drawn := s.drawn + 1 } ∧
      (s.errDraw = false → mu' = mu) ∧
      (rsp = s.sRsp ∨
        ∃ d', rsp = some { err := s.errDraw, data := d' } ∧ s.outstanding = true ∧ s.st.port = .portS ∧
          s.sRsp = none ∧ (s.errDraw = false → d' = d)) := by
  unfold State.answerS
  dsimp only
  rcases State.offerS_cases { err := s.errDraw, data := if s.errDraw then Config.freeDigest s.drawn else d }
    { s with sAcc := [], mu := if s.errDraw then Config.freeMu s.drawn else mu, drawn := s.drawn + 1 } with
    ⟨ho, hp, hr, h⟩ | h
  · exact ⟨_, _, h, by simp +contextual, .inr ⟨_, rfl, ho, hp, hr, by simp +contextual⟩⟩
  · exact ⟨_, _, h, by simp +contextual, .inl rfl⟩

/-- An answer of the Blowfish-family engine ends its request, sets its state, and gives the block at most a response (R107,
R108). -/
theorem State.answerB_cases (sigma : Sigma) (w : Words8) (s : State) :
    ∃ sigma' rsp, s.answerB sigma w = { s with bAcc := none, sigma := sigma', bRsp := rsp, drawn := s.drawn + 1 } ∧
      (s.errDraw = false → sigma' = sigma) ∧
      (rsp = s.bRsp ∨
        ∃ w', rsp = some { err := s.errDraw, w := w' } ∧ s.outstanding = true ∧ s.st.port = .portB ∧
          s.bRsp = none ∧ (s.errDraw = false → w' = w)) := by
  unfold State.answerB
  dsimp only
  rcases State.offerB_cases { err := s.errDraw, w := if s.errDraw then Config.freeWords s.drawn else w }
    { s with bAcc := none, sigma := if s.errDraw then Config.freeSigma s.drawn else sigma, drawn := s.drawn + 1 } with
    ⟨ho, hp, hr, h⟩ | h
  · exact ⟨_, _, h, by simp +contextual, .inr ⟨_, rfl, ho, hp, hr, by simp +contextual⟩⟩
  · exact ⟨_, _, h, by simp +contextual, .inl rfl⟩

/-! ### The agents' steps -/

/-- What comes next, and the state it is run in (spec/20_memory.md R52). -/
theorem State.takeEvent_cases (s : State) :
    (∃ e rest, s.agenda = e :: rest ∧ s.takeEvent = (e, { s with agenda := rest })) ∨
      (s.agenda = [] ∧ s.takeEvent = (Config.nextEvent s.drawn, { s with drawn := s.drawn + 1 })) := by
  unfold State.takeEvent
  split
  · next e rest h => exact .inl ⟨e, rest, h, rfl⟩
  · next h => exact .inr ⟨h, rfl⟩

/-- A host step is not the block's, is the error response, or executes an instruction (spec/20_memory.md R40, R43). -/
theorem hostStep_cases (a : BusAccess) (s : State) :
    hostStep a s = .next s ∨ hostStep a s = .next { s with busRsp := .busError } ∨
      ∃ i, BusAccess.inRegion s.params a = true ∧ BusAccess.legal a = true ∧
        decode (BusAccess.item s.params a) = .ok i ∧ hostStep a s = exec i s := by
  unfold hostStep
  by_cases hr : BusAccess.inRegion s.params a <;> by_cases hl : BusAccess.legal a <;> simp [hr, hl]
  split <;> simp_all

/-- A sequencer step takes a due abort, else executes the state's micro-step (R100, R191). -/
theorem seqStep_cases (s : State) :
    (s.abortDue = true ∧ seqStep s = .next s.takeAbort) ∨ (s.abortDue = false ∧ seqStep s = exec s.st.instr s) := by
  unfold seqStep
  cases h : s.abortDue <;> simp [decode_state]

/-- The SHA-512 engine has no step, executes its request, or was given one the spec does not define (R106). -/
theorem answerStepS_cases (err : Bool) (s : State) :
    (s.sAcc = [] ∧ answerStepS err s = .next s) ∨
    (∃ i, s.sAcc ≠ [] ∧ decode (.portS s.sAcc) = .ok i ∧ answerStepS err s = exec i { s with errDraw := err }) ∨
    (∃ r, s.sAcc ≠ [] ∧ decode (.portS s.sAcc) = .reject r ∧ answerStepS err s = .refused (.undefinedRequest r)) := by
  unfold answerStepS
  by_cases h : s.sAcc = []
  · simp [h]
  · cases hd : decode (.portS s.sAcc) <;> simp [h]

/-- The Blowfish-family engine has no step, executes its request, or was given one the spec does not define (R107). -/
theorem answerStepB_cases (err : Bool) (s : State) :
    (s.bAcc = none ∧ answerStepB err s = .next s) ∨
    (∃ q i, s.bAcc = some q ∧ decode (.portB q) = .ok i ∧ answerStepB err s = exec i { s with errDraw := err }) ∨
    (∃ q r, s.bAcc = some q ∧ decode (.portB q) = .reject r ∧
      answerStepB err s = .refused (.undefinedRequest r)) := by
  unfold answerStepB
  cases h : s.bAcc with
  | none => simp
  | some q => cases hd : decode (.portB q) <;> simp [hd]

end Sys2Proof.Machine
end

