-- ==== Sys2Proof/Laws/PerInstr.lean ====
section
/-! SUPPORT. The family of statements `WordFormat`, made for each instruction: the encoded item of an instruction is one of
its own format (spec/30_encoding.md R60, R78). -/

namespace Sys2Proof.Laws.WordFormat

/-- The formats of an encoded item (spec/30_encoding.md R60). -/
inductive Format where
  | hostbus15 | cmd32 | state5 | portS | portB
deriving DecidableEq, Repr

/-- The format an item is of: the register or port that carries it (R60). -/
def Format.ofItem : Item → Format
  | .bus _ _ => .hostbus15
  | .cmd _ => .cmd32
  | .state _ => .state5
  | .portS _ => .portS
  | .portB _ => .portB

/-- The format of each row of the opcode table (R78). -/
def Format.ofInstr : Instr → Format
  | .rd32 _ | .wr32 _ _ | .wr32Ctrl _ | .wr32Status _ | .wr32Cmd _ | .wr32PwLen _ | .wr32SaltLen _
  | .wr32OutLen _ | .wr32Rounds _ | .wr32Pwbuf _ _ | .wr32Saltbuf _ _ => .hostbus15
  | .nop | .start | .abort | .zeroize | .cmdIllegal _ => .cmd32
  | .stateIdle | .stateCheck | .statePhInit | .statePhUpd | .statePhFin | .stateSsInit | .stateSsUpd
  | .stateSsFin | .stateBhInit | .stateBhExp | .stateBhE0s | .stateBhE0p | .stateBhLdc | .stateBhEnc
  | .stateBhSer | .stateBhClr | .stateAcc | .stateRhInit | .stateRhUpd | .stateRhFin | .stateDist
  | .stateFinSclr | .stateFinZero | .stateErrSclr | .stateErrBclr | .stateErrZero => .state5
  | .shaInit | .shaUpdate _ | .shaFinal | .shaClear => .portS
  | .bfInit | .bfExpand _ _ | .bfExpand0 _ | .bfEncrypt _ | .bfClear => .portB

/-- The encoded item of the instruction is of the format of its row. -/
def Statement (i : Instr) : Prop := Format.ofItem (encode i) = Format.ofInstr i

theorem rd32 (off : BitVec 14) : Statement (.rd32 off) := rfl
theorem wr32 (off : BitVec 14) (v : Word) : Statement (.wr32 off v) := rfl
theorem wr32Ctrl (v : Word) : Statement (.wr32Ctrl v) := rfl
theorem wr32Status (v : Word) : Statement (.wr32Status v) := rfl
theorem wr32Cmd (w : Word) : Statement (.wr32Cmd w) := rfl
theorem wr32PwLen (v : Word) : Statement (.wr32PwLen v) := rfl
theorem wr32SaltLen (v : Word) : Statement (.wr32SaltLen v) := rfl
theorem wr32OutLen (v : Word) : Statement (.wr32OutLen v) := rfl
theorem wr32Rounds (v : Word) : Statement (.wr32Rounds v) := rfl
theorem wr32Pwbuf (k : BitVec 10) (v : Word) : Statement (.wr32Pwbuf k v) := rfl
theorem wr32Saltbuf (k : BitVec 10) (v : Word) : Statement (.wr32Saltbuf k v) := rfl
theorem nop : Statement .nop := rfl
theorem start : Statement .start := rfl
theorem abort : Statement .abort := rfl
theorem zeroize : Statement .zeroize := rfl
theorem cmdIllegal (w : Word) : Statement (.cmdIllegal w) := rfl
theorem stateIdle : Statement .stateIdle := rfl
theorem stateCheck : Statement .stateCheck := rfl
theorem statePhInit : Statement .statePhInit := rfl
theorem statePhUpd : Statement .statePhUpd := rfl
theorem statePhFin : Statement .statePhFin := rfl
theorem stateSsInit : Statement .stateSsInit := rfl
theorem stateSsUpd : Statement .stateSsUpd := rfl
theorem stateSsFin : Statement .stateSsFin := rfl
theorem stateBhInit : Statement .stateBhInit := rfl
theorem stateBhExp : Statement .stateBhExp := rfl
theorem stateBhE0s : Statement .stateBhE0s := rfl
theorem stateBhE0p : Statement .stateBhE0p := rfl
theorem stateBhLdc : Statement .stateBhLdc := rfl
theorem stateBhEnc : Statement .stateBhEnc := rfl
theorem stateBhSer : Statement .stateBhSer := rfl
theorem stateBhClr : Statement .stateBhClr := rfl
theorem stateAcc : Statement .stateAcc := rfl
theorem stateRhInit : Statement .stateRhInit := rfl
theorem stateRhUpd : Statement .stateRhUpd := rfl
theorem stateRhFin : Statement .stateRhFin := rfl
theorem stateDist : Statement .stateDist := rfl
theorem stateFinSclr : Statement .stateFinSclr := rfl
theorem stateFinZero : Statement .stateFinZero := rfl
theorem stateErrSclr : Statement .stateErrSclr := rfl
theorem stateErrBclr : Statement .stateErrBclr := rfl
theorem stateErrZero : Statement .stateErrZero := rfl
theorem shaInit : Statement .shaInit := rfl
theorem shaUpdate (p : List Byte) : Statement (.shaUpdate p) := rfl
theorem shaFinal : Statement .shaFinal := rfl
theorem shaClear : Statement .shaClear := rfl
theorem bfInit : Statement .bfInit := rfl
theorem bfExpand (a : Bytes64) (k : Bytes64) : Statement (.bfExpand a k) := rfl
theorem bfExpand0 (a : Bytes64) : Statement (.bfExpand0 a) := rfl
theorem bfEncrypt (w : Words8) : Statement (.bfEncrypt w) := rfl
theorem bfClear : Statement .bfClear := rfl

end Sys2Proof.Laws.WordFormat
end

