-- ==== Sys2Proof/Tests/Slice0.lean ====
section
/-! SUPPORT. Tests of the model: ill-formed terms that are refused, one encoding written out from the spec for every
instruction, single steps with expected values from spec/95_test_vectors.md, and for every statement that has hypotheses a
concrete state that meets them. -/

namespace Sys2Proof.Tests

open Sys2Proof.Machine Sys2Proof.Safety

/-! ### Ill-formed terms -/

theorem test_misaligned_read_ill_formed : WellFormed (.rd32 0x002) = false := by decide
theorem test_misaligned_write_ill_formed : WellFormed (.wr32 0x001 0) = false := by decide
theorem test_dispatched_write_ill_formed :
    WellFormed (.wr32 0x008 0) = false ∧ WellFormed (.wr32 0x1000 0) = false ∧ WellFormed (.wr32 0x2FFC 0) = false := by
  decide
theorem test_legal_command_not_illegal :
    WellFormed (.cmdIllegal 3) = false ∧ WellFormed (.cmdIllegal 4) = true := by decide
theorem test_empty_update_ill_formed : WellFormed (.shaUpdate []) = false := by decide
theorem test_long_update_ill_formed : WellFormed (.shaUpdate (List.replicate 4101 0)) = false := by
  simp only [WellFormed, List.length_replicate]; decide

/-! ### Decoding, each word written out from the spec's encoding

HOSTBUS15: direction, then the 14 bits of the offset (spec/30_encoding.md R78, spec/20_memory.md R41). -/

theorem test_decode_reads :
    decode (.bus 0b0_00000000110000#15 0) = .ok (.rd32 0x030) ∧
      decode (.bus 0b0_11001111111100#15 0) = .ok (.rd32 0x33FC) := by decide

theorem test_decode_register_writes :
    decode (.bus 0b1_00000000001000#15 3) = .ok (.wr32Ctrl 3) ∧
    decode (.bus 0b1_00000000001100#15 0x18) = .ok (.wr32Status 0x18) ∧
    decode (.bus 0b1_00000000010000#15 1) = .ok (.wr32Cmd 1) ∧
    decode (.bus 0b1_00000000011000#15 8) = .ok (.wr32PwLen 8) ∧
    decode (.bus 0b1_00000000011100#15 4) = .ok (.wr32SaltLen 4) ∧
    decode (.bus 0b1_00000000100000#15 32) = .ok (.wr32OutLen 32) ∧
    decode (.bus 0b1_00000000100100#15 5) = .ok (.wr32Rounds 5) := by decide

theorem test_decode_window_and_other_writes :
    decode (.bus 0b1_01000011111100#15 0x44332211) = .ok (.wr32Pwbuf 63 0x44332211) ∧
    decode (.bus 0b1_10000000000000#15 0x6C43614E) = .ok (.wr32Saltbuf 0 0x6C43614E) ∧
    decode (.bus 0b1_10111111111100#15 7) = .ok (.wr32Saltbuf 1023 7) ∧
    decode (.bus 0b1_11000000000000#15 9) = .ok (.wr32 0x3000 9) ∧
    decode (.bus 0b1_00000000010100#15 7) = .ok (.wr32 0x014 7) ∧
    decode (.bus 0b1_00000000000010#15 1) = .reject .misaligned := by decide

/-- Command words: OP in bits 3:0, MBZ above (R61 to R63). -/
theorem test_decode_commands :
    decode (.cmd 0x00000000) = .ok .nop ∧ decode (.cmd 0x00000001) = .ok .start ∧
    decode (.cmd 0x00000002) = .ok .abort ∧ decode (.cmd 0x00000003) = .ok .zeroize ∧
    decode (.cmd 0x00000004) = .ok (.cmdIllegal 4) ∧ decode (.cmd 0x80000001) = .ok (.cmdIllegal 0x80000001) := by decide

/-- State codes (R70). -/
theorem test_decode_setup_states :
    decode (.state 0b00000) = .ok .stateIdle ∧ decode (.state 0b00001) = .ok .stateCheck ∧
    decode (.state 0b00010) = .ok .statePhInit ∧ decode (.state 0b00011) = .ok .statePhUpd ∧
    decode (.state 0b00100) = .ok .statePhFin ∧ decode (.state 0b00101) = .ok .stateSsInit ∧
    decode (.state 0b00110) = .ok .stateSsUpd ∧ decode (.state 0b00111) = .ok .stateSsFin := by decide

theorem test_decode_hash_states :
    decode (.state 0b01000) = .ok .stateBhInit ∧ decode (.state 0b01001) = .ok .stateBhExp ∧
    decode (.state 0b01010) = .ok .stateBhE0s ∧ decode (.state 0b01011) = .ok .stateBhE0p ∧
    decode (.state 0b01100) = .ok .stateBhLdc ∧ decode (.state 0b01101) = .ok .stateBhEnc ∧
    decode (.state 0b01110) = .ok .stateBhSer ∧ decode (.state 0b01111) = .ok .stateBhClr := by decide

theorem test_decode_driver_states :
    decode (.state 0b10000) = .ok .stateAcc ∧ decode (.state 0b10001) = .ok .stateRhInit ∧
    decode (.state 0b10010) = .ok .stateRhUpd ∧ decode (.state 0b10011) = .ok .stateRhFin ∧
    decode (.state 0b10100) = .ok .stateDist ∧ decode (.state 0b10101) = .ok .stateFinSclr ∧
    decode (.state 0b10110) = .ok .stateFinZero ∧ decode (.state 0b10111) = .ok .stateErrSclr ∧
    decode (.state 0b11000) = .ok .stateErrBclr ∧ decode (.state 0b11001) = .ok .stateErrZero ∧
    decode (.state 0b11010) = .reject (.reservedState 0b11010) := by decide

/-- Port S beats (R71, R72; T4.1, T4.3, T4.7, T4.8). -/
theorem test_decode_port_s :
    decode (.portS [.header 0x1 0 0 true]) = .ok .shaInit ∧
    decode (.portS [.header 0x2 2 0 false, .payload 0x0000000000007770 true]) = .ok (.shaUpdate [0x70, 0x77]) ∧
    decode (.portS [.header 0x3 0 0 true]) = .ok .shaFinal ∧
    decode (.portS [.header 0x4 0 0 true]) = .ok .shaClear ∧
    decode (.portS [.header 0x5 0 0 true]) = .reject (.reservedPortOp 0x5) ∧
    decode (.portS [.header 0x2 2 0 false, .payload 0x0000000000017770 true]) = .reject .malformedRequest := by decide

/-- Port B requests (R73, R74; T4.9 to T4.13). -/
theorem test_decode_port_b :
    decode (.portB ⟨0x1, zero64, zero64, zeroW⟩) = .ok .bfInit ∧
    decode (.portB ⟨0x2, Vector.replicate 64 1, Vector.replicate 64 2, zeroW⟩) =
      .ok (.bfExpand (Vector.replicate 64 1) (Vector.replicate 64 2)) ∧
    decode (.portB ⟨0x3, Vector.replicate 64 1, zero64, zeroW⟩) = .ok (.bfExpand0 (Vector.replicate 64 1)) ∧
    decode (.portB ⟨0x4, zero64, zero64, constW⟩) = .ok (.bfEncrypt constW) ∧
    decode (.portB ⟨0x5, zero64, zero64, zeroW⟩) = .ok .bfClear ∧
    decode (.portB ⟨0x6, zero64, zero64, zeroW⟩) = .reject (.reservedPortOp 0x6) := by decide +kernel

/-- The words of the opcode table: HOSTBUS15, CMD32, STATE5 and the port opcodes (R78). -/
theorem test_table_words :
    decodeTableWord 16 0x4008 = some (.wr32Ctrl 0) ∧ decodeTableWord 32 0x00000002 = some .abort ∧
    decodeTableWord 8 0x19 = some .stateErrZero ∧ decodeTableWord 4 0x3 = some .shaFinal ∧
    decodeTableWord 4 0x5 = some .bfClear := by decide

/-! ### Small states -/

/-- Password "pw", salt "s", 33 bytes of output, 2 rounds, the stub engines of spec/95 section 3. -/
def loaded : State :=
  { State.resetWith { Params.reference with sha := .stub, bf := .stub } with
    pwLen := 2, saltLen := 1, outLen := 33, rounds := 2
    mem := [(0x1000, 0x70), (0x1001, 0x77), (0x2000, 0x73)] }

/-- The same in a state past CHECK. -/
def computing (st : SeqState) : State :=
  { loaded with st := st, stride := 2, amt := 17, remain := 33, blkCnt := 1, rndCnt := 1 }

/-- A port S state with its answer in the slot. -/
def answeredS (st : SeqState) (err : Bool) : State :=
  { computing st with outstanding := true, sRsp := some { err := err, data := Vector.replicate 64 0xA5 } }

/-- A port B state with its answer in the slot. -/
def answeredB (st : SeqState) (err : Bool) : State :=
  { computing st with outstanding := true, bRsp := some { err := err, w := Vector.replicate 8 0x12345678 } }

/-- One field of the next state. -/
def after {α : Type} (o : Host.Outcome State Fault Refusal) (f : State → α) : Option α :=
  match o with
  | .next s => some (f s)
  | .fault _ | .refused _ => none

/-- One host access comes next. -/
def access (s : State) (write : Bool) (addr : Nat) (v : Word) : State :=
  { s with agenda := [.host { write := write, addr := addr, width := .word, lanes := 0xF, wdata := v }] }

/-! ### Host accesses (spec/95 section 4.1) -/

/-- T1.1. -/
theorem test_reads_after_reset :
    after (exec (.rd32 0x000) State.reset) State.busRsp = some (.data 0x424B4446) ∧
    after (exec (.rd32 0x004) State.reset) State.busRsp = some (.data 0x00010000) ∧
    after (exec (.rd32 0x00C) State.reset) State.busRsp = some (.data 0) ∧
    after (exec (.rd32 0x034) State.reset) State.busRsp = some (.data 0) ∧
    after (exec (.rd32 0x038) State.reset) State.busRsp = some (.data 0x01000100) := by decide

/-- T1.2, T1.4: lane 0 is the lowest byte, lanes past the capacity are ignored, the window reads 0. -/
theorem test_password_window :
    after (exec (.wr32Pwbuf 0 0x73736170) State.reset) State.mem =
      some [(0x1000, 0x70), (0x1001, 0x61), (0x1002, 0x73), (0x1003, 0x73)] ∧
    after (exec (.wr32Pwbuf 64 0x88776655) State.reset) State.mem = some [] ∧
    after (exec (.rd32 0x1000) loaded) State.busRsp = some (.data 0) := by decide

/-- T1.3. -/
theorem test_salt_window :
    after (exec (.wr32Saltbuf 0 0x6C43614E) State.reset) State.mem =
      some [(0x2000, 0x4E), (0x2001, 0x61), (0x2002, 0x43), (0x2003, 0x6C)] := by decide

/-- T1.5: a byte access and a misaligned write. -/
theorem test_bus_errors :
    after (step { loaded with agenda := [.host ⟨false, 0x000, .byte, 0x1, 0⟩] }) State.busRsp = some .busError ∧
    after (step (access loaded true 0x0002 1)) (fun t => (t.busRsp, t.cmdErr, t.wErr)) =
      some (.busError, false, false) := by decide

/-- T1.7, T1.10, T1.11, T1.14. -/
theorem test_register_writes :
    after (exec (.wr32 0x014 7) loaded) (fun t => (t.errCode, t.wErr)) = some (0, false) ∧
    after (exec (.wr32Ctrl 1) { loaded with done := true }) (fun t => (t.irq, t.statusWord)) =
      some (true, 0x00000022) ∧
    after (exec (.wr32Rounds 5) (computing .acc)) (fun t => (t.rounds, t.wErr)) = some (2, true) ∧
    after (exec (.wr32Ctrl 3) (computing .acc)) (fun t => (t.ctrlWord, t.wErr)) = some (3, false) := by decide

/-- T1.8, T1.9. -/
theorem test_status_write_one_to_clear :
    after (exec (.wr32Status 0x18) { loaded with done := true, cmdErr := true, wErr := true }) State.statusWord =
      some 0x00000002 ∧
    after (exec (.wr32Status 0x4) { loaded with err := true, errCode := 0x00011301 })
      (fun t => (t.statusWord, t.errCode)) = some (0, 0x00011301) := by decide

theorem test_lengths_are_held :
    after (exec (.wr32PwLen 0xFFFFFFFF) loaded) State.pwLen = some 0xFFFFFFFF ∧
    after (exec (.wr32SaltLen 4) loaded) State.saltLen = some 4 ∧
    after (exec (.wr32OutLen 1025) loaded) State.outLen = some 1025 := by decide

/-! ### Commands (spec/95 section 4.2) -/

/-- T2.2, T2.3. -/
theorem test_start :
    after (exec .start { loaded with done := true, errCode := 5, mem := [(0x1000, 0x70), (0x3001, 9)] })
      (fun t => (t.statusWord, t.errCode, t.mem)) = some (0x00000001, 0, [(0x1000, 0x70)]) ∧
    after (exec (.wr32Cmd 1) (computing .acc)) (fun t => (t.st, t.cmdErr)) = some (.acc, true) := by decide

/-- T2.4, T2.5, T2.1. -/
theorem test_abort_and_nop :
    after (exec .abort (computing .acc)) (fun t => (t.st, t.abortP)) = some (.acc, true) ∧
    after (exec .abort loaded) State.abortP = some false ∧
    after (exec .nop (computing .acc)) State.cmdErr = some false := by decide

/-- T2.6, T2.7. -/
theorem test_zeroize :
    after (exec .zeroize { loaded with done := true, err := true }) (fun t => (t.mem, t.pwLen, t.done, t.err, t.outLen)) =
      some ([], 0, false, true, 33) ∧
    after (exec .zeroize (computing .acc)) (fun t => (t.pwLen, t.cmdErr)) = some (2, true) := by decide

/-- T2.9. -/
theorem test_illegal_commands :
    after (exec (.wr32Cmd 0x00000011) loaded) (fun t => (t.st, t.cmdErr)) = some (.idle, true) ∧
    after (exec (.wr32Cmd 0x80000001) loaded) (fun t => (t.st, t.cmdErr)) = some (.idle, true) ∧
    after (exec (.cmdIllegal 0x7) loaded) State.cmdErr = some true := by decide

/-! ### CHECK and the password digest (spec/95 sections 4.3 and 4.4) -/

/-- E1 and E2. -/
theorem test_check_refuses :
    after (exec .stateCheck { loaded with st := .check, pwLen := 0, outLen := 1025, rounds := 0 })
      (fun t => (t.st, t.errCode)) = some (.errZero, 0x00011301) ∧
    after (exec .stateCheck { loaded with st := .check, pwLen := 300, saltLen := 257, outLen := 0, rounds := 5 })
      State.errCode = some 0x00016801 := by decide

/-- T3.8, n = 67 and n = 1024. -/
theorem test_check_geometry :
    after (exec .stateCheck { loaded with st := .check, outLen := 67 }) (fun t => (t.st, t.geomWord)) =
      some (.phInit, 0x00431703) ∧
    after (exec .stateCheck { loaded with st := .check, outLen := 1024 }) State.geomWord = some 0x04002020 := by decide

/-- T4.1, T4.3, T4.7: the three requests of the password digest. -/
theorem test_password_digest_requests :
    after (exec .statePhInit (computing .phInit)) State.sReq = some [.header 0x1 0 0 true] ∧
    after (exec .statePhUpd (computing .phUpd)) State.sReq =
      some [.header 0x2 2 0 false, .payload 0x0000000000007770 true] ∧
    after (exec .statePhFin (computing .phFin)) State.sReq = some [.header 0x3 0 0 true] := by decide

/-- R126, R128 and F1: completion, the digest taken, SHA_FAULT. -/
theorem test_password_digest_completions :
    after (exec .statePhInit (answeredS .phInit false)) (fun t => (t.st, t.outstanding)) = some (.phUpd, false) ∧
    after (exec .statePhUpd (answeredS .phUpd true)) (fun t => (t.st, t.errCode)) = some (.errSclr, 0x00030002) ∧
    after (exec .statePhFin (answeredS .phFin false)) (fun t => (t.st, t.pd)) =
      some (.ssInit, Vector.replicate 64 0xA5) := by decide

/-! ### Bcrypt-Hash (spec/95 section 4.5) -/

/-- T4.9, T4.11, T4.13: what the states send. -/
theorem test_hash_requests :
    after (exec .stateBhInit (computing .bhInit)) State.bReq = some (some ⟨0x1, zero64, zero64, zeroW⟩) ∧
    after (exec .stateBhExp { computing .bhExp with sd := Vector.replicate 64 1, pd := Vector.replicate 64 2 })
      State.bReq = some (some ⟨0x2, Vector.replicate 64 1, Vector.replicate 64 2, zeroW⟩) ∧
    after (exec .stateBhE0p { computing .bhE0p with sd := Vector.replicate 64 1, pd := Vector.replicate 64 2 })
      State.bReq = some (some ⟨0x3, Vector.replicate 64 2, zero64, zeroW⟩) ∧
    after (exec .stateBhClr (computing .bhClr)) State.bReq = some (some ⟨0x5, zero64, zero64, zeroW⟩) := by
  decide +kernel

/-- T5.2, T5.3, T5.4: FSM reads with a request outstanding, and the end of the loop. -/
theorem test_hash_loop :
    after (exec .stateBhE0s { computing .bhE0s with iter := 5 }) State.fsmWord = some 0x0005010A ∧
    after (exec .stateBhE0p { answeredB .bhE0p false with iter := 63 }) State.fsmWord = some 0x0000000C ∧
    after (exec .stateBhEnc { computing .bhEnc with iter := 9 }) State.fsmWord = some 0x0009010D ∧
    after (exec .stateBhEnc { answeredB .bhEnc false with iter := 63 }) State.fsmWord = some 0x0000000E := by
  decide +kernel

/-- T5.1 and the example of R147. -/
theorem test_constant_and_serialisation :
    after (exec .stateBhLdc (computing .bhLdc)) (fun t => (t.fsmWord, t.cw)) = some (0x0000000D, constWords) ∧
    after (exec .stateBhSer { computing .bhSer with cw := Vector.replicate 8 0x6914F47A })
      (fun t => (t.fsmWord, t.cw, t.prev.toList.take 4)) = some (0x0000000F, zeroW, [0x7A, 0xF4, 0x14, 0x69]) := by
  decide +kernel

/-- R141, R142, R143, R148 completions, F5. -/
theorem test_hash_completions :
    after (exec .stateBhInit (answeredB .bhInit false)) State.st = some .bhExp ∧
    after (exec .stateBhExp { answeredB .bhExp false with iter := 9 }) (fun t => (t.st, t.iter)) = some (.bhE0s, 0) ∧
    after (exec .stateBhE0s (answeredB .bhE0s false)) State.st = some .bhE0p ∧
    after (exec .stateBhClr (answeredB .bhClr true)) (fun t => (t.st, t.errCode)) = some (.errSclr, 0x000F0003) := by
  decide +kernel

/-! ### The driver (spec/95 section 4.6) -/

/-- T4.5: the salt and the counter, big-endian. -/
theorem test_salt_digest_requests :
    after (exec .stateSsUpd
      { computing .ssUpd with
        saltLen := 4, blkCnt := 2, mem := [(0x2000, 0x4E), (0x2001, 0x61), (0x2002, 0x43), (0x2003, 0x6C)] }) State.sReq =
      some [.header 0x2 8 0 false, .payload 0x020000006C43614E true] ∧
    after (exec .stateSsInit (answeredS .ssInit false)) State.st = some .ssUpd ∧
    after (exec .stateSsFin (answeredS .ssFin false)) (fun t => (t.st, t.sd)) =
      some (.bhInit, Vector.replicate 64 0xA5) := by decide

/-- T4.6: PREV is the payload of RH_UPD. -/
theorem test_rehash_requests :
    after (exec .stateRhUpd { computing .rhUpd with prev := Vector.ofFn fun i => BitVec.ofNat 8 i.val }) State.sReq =
      some [.header 0x2 32 0 false, .payload 0x0706050403020100 false, .payload 0x0F0E0D0C0B0A0908 false,
        .payload 0x1716151413121110 false, .payload 0x1F1E1D1C1B1A1918 true] ∧
    after (exec .stateRhInit (answeredS .rhInit false)) State.st = some .rhUpd ∧
    after (exec .stateRhFin (answeredS .rhFin false)) State.st = some .bhInit := by decide +kernel

/-- R163, with the first bytes of the reference run: 7a xor 0f = 75. -/
theorem test_accumulator :
    after (exec .stateAcc { computing .acc with prev := Vector.replicate 32 0x7A })
      (fun t => (t.st, t.rndCnt, t.block)) = some (.rhInit, 2, Vector.replicate 32 0x7A) ∧
    after (exec .stateAcc
      { computing .acc with rndCnt := 2, block := Vector.replicate 32 0x7A, prev := Vector.replicate 32 0x0F })
      (fun t => (t.st, t.block)) = some (.dist, Vector.replicate 32 0x75) := by decide +kernel

/-- T6.2: n = 67, 23 bytes in block 1, 22 in block 2. -/
theorem test_distribution :
    after (exec .stateDist { computing .dist with outLen := 67, stride := 3, amt := 23, remain := 67 })
      (fun t => (t.geomWord, t.st)) = some (0x002C1703, .ssInit) ∧
    after (exec .stateDist { computing .dist with outLen := 67, stride := 3, amt := 23, remain := 44, blkCnt := 2 })
      State.geomWord = some 0x00161703 := by decide

/-- DIST of one block of three bytes, and the end of the run (R167, R170, R171). -/
theorem test_finish :
    after (exec .stateDist
      { computing .dist with
        outLen := 3, stride := 1, amt := 3, remain := 3, block := Vector.ofFn fun i => BitVec.ofNat 8 (i.val + 1), mem := [] })
      (fun t => (t.mem, t.st)) = some ([(0x3000, 1), (0x3001, 2), (0x3002, 3)], .finSclr) ∧
    after (exec .stateFinSclr (computing .finSclr)) State.sReq = some [.header 0x4 0 0 true] ∧
    after (exec .stateFinZero { computing .finZero with mem := [(0x1000, 1), (0x3000, 0x7A)] })
      (fun t => (t.statusWord, t.mem, t.geomWord)) = some (0x00000002, [(0x3000, 0x7A)], 0) := by decide +kernel

/-! ### The error path, aborts and reset (spec/95 sections 4.7 and 4.8) -/

/-- F4: the clears' errors are ignored. ERR_ZERO wipes OUTBUF too. -/
theorem test_error_path :
    after (exec .stateErrSclr { answeredS .errSclr true with errCode := 0x00030002 }) (fun t => (t.st, t.errCode)) =
      some (.errBclr, 0x00030002) ∧
    after (exec .stateErrBclr (answeredB .errBclr true)) State.st = some .errZero ∧
    after (exec .stateErrZero { computing .errZero with mem := [(0x1000, 1), (0x3000, 0x7A)], abortP := true })
      (fun t => (t.statusWord, t.mem)) = some (0x00000004, []) := by decide

/-- A4: an abort at CHECK wins over the validation. -/
theorem test_abort_at_check :
    after (step { State.reset with st := .check, abortP := true, agenda := [.seq] })
      (fun t => (t.st, t.errCode, t.abortP)) = some (.errSclr, 0x00010004, false) := by decide

/-- T8.1: a reset while a request is outstanding. -/
theorem test_reset_in_a_visit :
    after (step { computing .bhE0s with outstanding := true, bReq := some ⟨0x3, zero64, zero64, zeroW⟩, agenda := [.rst] })
      (fun t => (t.fsmWord, t.bReqValid, t.mem, t.statusWord)) = some (0, false, [], 0) := by decide

/-- R120: IDLE has no step. -/
theorem test_idle_stays : exec .stateIdle loaded = .next loaded := rfl

/-! ### The engines (spec/95 sections 2 and 3) -/

/-- SH1: the stub digest of "pw", and how the engine answers it. -/
theorem test_stub_digest :
    (stubSha [0x70, 0x77]).toList.take 8 = [0x48, 0x69, 0x4C, 0x59, 0x4C, 0x6D, 0x48, 0x5D] ∧
    after (exec .shaFinal { computing .phFin with outstanding := true, mu := .ctx [0x70, 0x77] }) State.sRsp =
      some (some { err := false, data := stubSha [0x70, 0x77] }) := by decide +kernel

/-- R110, R111, R113: the context of the engine. -/
theorem test_digest_context :
    after (exec .shaInit loaded) State.mu = some (.ctx []) ∧
    after (exec (.shaUpdate [0x77]) { loaded with mu := .ctx [0x70] }) State.mu = some (.ctx [0x70, 0x77]) ∧
    after (exec .shaClear { loaded with mu := .ctx [0x70] }) State.mu = some .cleared := by decide

/-- SB1: the stub encryption of the constant after BF_INIT. -/
theorem test_stub_encryption :
    after (exec (.bfEncrypt constWords) { computing .bhEnc with outstanding := true, sigma := .st [0x243F6A88] })
      State.bRsp =
      some (some
        { err := false
          w := #v[0xD154ECDA, 0xEB15260D, 0xEBCCECE1, 0x30CA3357, 0x9E3A9D80, 0x2D7AEDF4, 0x762A1197, 0x7A3C5713] }) := by
  decide +kernel

/-- SB2: the stub cipher state after BH_INIT and BH_EXP, with PD = 00..3F and SD = 40..7F. -/
theorem test_stub_cipher_state :
    after (exec .bfInit loaded) State.sigma = some (.st [0x243F6A88]) ∧
    after (exec (.bfExpand (Vector.ofFn fun i => BitVec.ofNat 8 (i.val + 0x40)) (Vector.ofFn fun i => BitVec.ofNat 8 i.val))
      { loaded with sigma := .st [0x243F6A88] }) State.sigma = some (.st [0x77F16D87]) ∧
    after (exec (.bfExpand0 (Vector.ofFn fun i => BitVec.ofNat 8 (i.val + 0x40)))
      { loaded with sigma := .st [0x77F16D87] }) State.sigma = some (.st [0x15CF1FA4]) ∧
    after (exec .bfClear { loaded with sigma := .st [1] }) State.sigma = some .cleared := by decide +kernel

/-- V2: SHA-512 of "password", its first and last four bytes. -/
theorem test_password_digest_vector :
    let d := (sha512 [0x70, 0x61, 0x73, 0x73, 0x77, 0x6F, 0x72, 0x64]).toList
    d.take 4 = [0xB1, 0x09, 0xF3, 0xBB] ∧ d.drop 60 = [0x0C, 0xAC, 0xBC, 0x86] := by decide +kernel

/-! ### Witnesses: for each statement with hypotheses, a state and operands that meet them, clause by clause -/

/-- A step that answers a next state. -/
def Steps (s : State) : Prop := ∃ t, step s = .next t

theorem next_of_after {α : Type} {o : Host.Outcome State Fault Refusal} {f : State → α} {a : α} (h : after o f = some a) :
    ∃ t, o = .next t ∧ f t = a := by
  cases o with
  | next t => exact ⟨t, rfl, Option.some.inj h⟩
  | fault _ => cases h
  | refused _ => cases h

theorem steps_of_after {s : State} (h : after (step s) (fun _ => ()) = some ()) : Steps s :=
  (next_of_after h).imp fun _ ht => ht.1

/-- The one event that comes next. -/
def upNext (s : State) (e : Event) : State := { s with agenda := [e] }

/-- PH_UPD with its request in the slot, accepted, answered. -/
def issuedS : State :=
  { computing .phUpd with outstanding := true, sReq := [.header 0x2 2 0 false, .payload 0x0000000000007770 true] }

theorem witness_StepRunsTheDecodedInstruction :
    (let s := access loaded true 0x0010 1;
      ∃ a, s.agenda = [.host a] ∧ BusAccess.inRegion s.params a = true ∧ BusAccess.legal a = true ∧
        decode (BusAccess.item s.params a) = .ok (.wr32Cmd 1)) ∧
    ((computing .acc).abortDue = false ∧ decode (.state (computing .acc).st.code) = .ok .stateAcc) ∧
    ({ issuedS with sReq := [], sAcc := issuedS.sReq }.sAcc ≠ [] ∧
      decode (.portS issuedS.sReq) = .ok (.shaUpdate [0x70, 0x77])) ∧
    (decode (.portB ⟨0x1, zero64, zero64, zeroW⟩) = .ok .bfInit) ∧ State.reset.agenda = [] :=
  ⟨⟨_, rfl, by decide, by decide, by decide⟩, by decide, by decide, by decide +kernel, rfl⟩

/-- The shortest and the longest payload, and the last offset. -/
theorem witness_DecodeOfEncodeIsTheInstruction :
    WellFormed (.shaUpdate [0]) = true ∧ WellFormed (.shaUpdate (List.replicate 4100 0)) = true ∧
    WellFormed (.rd32 0x3FFC) = true ∧ WellFormed (.wr32 0x0FFC 1) = true ∧ WellFormed (.wr32 0x3000 1) = true ∧
    WellFormed (.cmdIllegal 4) = true := by
  refine ⟨by decide, ?_, by decide, by decide, by decide, by decide⟩
  simp only [WellFormed, List.length_replicate]; decide

theorem witness_ResetEventClearsTheBlock : (upNext issuedS .rst).agenda = [.rst] := rfl

/-- Every offset that bounds a clause is word-aligned, and the clauses with BUSY are met. -/
theorem witness_ReadsReturnTheMappedWord :
    (∀ off ∈ [0x000, 0x004, 0x008, 0x00C, 0x010, 0x014, 0x018, 0x01C, 0x020, 0x024, 0x028, 0x02C, 0x030, 0x034, 0x038,
      0x03C, 0x2FFC, 0x3000, 0x33FC, 0x3400, 0x3FFC], aligned off = true) ∧
    (computing .acc).st ≠ .idle ∧ loaded.st = .idle :=
  ⟨List.forall_iff_forall_mem.1 (by decide), by decide, by decide⟩

theorem witness_HostAccessesNeverReachSecrets :
    (∀ i < 1024, memRead [(0x1000, 0x55)] (0x3000 + i) = memRead loaded.mem (0x3000 + i)) ∧
      Steps (access loaded true 0x1000 0x11111111) :=
  ⟨fun i _ => by
    have h1 : 0x3000 + i ≠ 0x1000 := by omega
    have h2 : 0x3000 + i ≠ 0x1001 := by omega
    have h3 : 0x3000 + i ≠ 0x2000 := by omega
    simp [loaded, memRead, h1, h2, h3], steps_of_after (by decide)⟩

/-- A byte access, an access to a misaligned address, one to the last word with a lane disabled. -/
theorem witness_IllegalAccessGetsBusError :
    (loaded.params.base ≤ 0 ∧ 0 < loaded.params.base + 0x4000 ∧ Width.byte ≠ .word) ∧
    (loaded.params.base ≤ 2 ∧ 2 < loaded.params.base + 0x4000 ∧ 2 % 4 ≠ 0) ∧
    (loaded.params.base ≤ 0x3FFC ∧ 0x3FFC < loaded.params.base + 0x4000 ∧ (0x7 : BitVec 4) ≠ 0xF) := by decide

theorem witness_ConfigurationWritesHoldOnlyWhileIdle :
    loaded.st = .idle ∧ (computing .acc).st ≠ .idle ∧ Instr.wr32Rounds 5 ∈ [Instr.wr32PwLen 5, .wr32SaltLen 5,
      .wr32OutLen 5, .wr32Rounds 5] := by decide

/-- The last word of the 256-byte window, a word past it, both windows' ends. -/
theorem witness_InputWindowWritesStoreLanes :
    Memory.wf loaded.mem ∧ loaded.st = .idle ∧ 4 * (63 : BitVec 10).toNat + 3 < loaded.params.pwMax ∧
    ¬4 * (64 : BitVec 10).toNat + 0 < loaded.params.saltMax ∧ (computing .acc).st ≠ .idle ∧
    Memory.wf (computing .acc).mem ∧ 0x1000 ≤ (0x1000 : BitVec 14).toNat ∧ (0x2FFC : BitVec 14).toNat < 0x3000 := by decide

theorem witness_OtherWritesHaveNoEffect :
    ∀ off ∈ ([0x000, 0x004, 0x014, 0x028, 0x038, 0x03C, 0x0FFC, 0x3000, 0x3FFC] : List (BitVec 14)),
      off.extractLsb' 0 2 = 0 ∧ off ∉ ([0x008, 0x00C, 0x010, 0x018, 0x01C, 0x020, 0x024] : List (BitVec 14)) ∧
        (off.toNat < 0x1000 ∨ 0x3000 ≤ off.toNat) := by
  refine List.forall_iff_forall_mem.1 ?_; decide

theorem witness_CommandWriteRunsTheCommand :
    (0x00000011 : Word).extractLsb' 4 28 ≠ 0 ∧
    (∀ w ∈ ([0, 1, 2, 3, 4, 0xF] : List Nat), (BitVec.ofNat 32 w).extractLsb' 4 28 = 0 ∧
      ((BitVec.ofNat 32 w).extractLsb' 0 4).toNat = w) := by decide

theorem witness_IllegalCommandOnlySetsCmdErr :
    (0x00000010 : Word).extractLsb' 4 28 ≠ 0 ∧ 4 ≤ ((0x00000004 : Word).extractLsb' 0 4).toNat ∧
    4 ≤ ((0x0000000F : Word).extractLsb' 0 4).toNat := by decide

/-- START and ZEROIZE: busy, and idle. -/
theorem witness_StartEntersCheckOnlyFromIdle : (computing .acc).st ≠ .idle ∧ loaded.st = .idle := by decide

theorem witness_ZeroizeWipesOnlyWhileIdle :
    (computing .finZero).st ≠ .idle ∧ { loaded with done := true }.st = .idle := by decide

theorem witness_AbortIsTakenAtAVisitBoundary :
    (computing .acc).st ≠ .idle ∧ loaded.st = .idle ∧
    (let s := upNext { computing .finZero with abortP := true } .seq;
      s.agenda = [.seq] ∧ s.abortP = true ∧ s.outstanding = false ∧ s.st ∉ [.idle, .errSclr, .errBclr, .errZero]) ∧
    ((upNext { issuedS with abortP := true } .seq).outstanding = true ∧
      (upNext { computing .errZero with abortP := true } .seq).st ∈ [SeqState.errSclr, .errBclr, .errZero]) := by decide

theorem witness_IdleIsLeftOnlyByStart :
    loaded.st = .idle ∧ Steps (access loaded true 0x010 1) ∧ Steps (upNext loaded .seq) := 
  ⟨rfl, steps_of_after (by decide), steps_of_after (by decide)⟩

/-- Each of the seven conditions, at its boundary. -/
theorem witness_CheckReportsEveryFailedCondition :
    { loaded with rounds := 0 }.rounds = 0 ∧ { loaded with pwLen := 0 }.pwLen = 0 ∧
    { loaded with saltLen := 0 }.saltLen = 0 ∧ { loaded with outLen := 0 }.outLen = 0 ∧
    1024 < { loaded with outLen := 1025 }.outLen.toNat ∧
    loaded.params.pwMax < { loaded with pwLen := 257 }.pwLen.toNat ∧
    loaded.params.saltMax < { loaded with saltLen := 257 }.saltLen.toNat := by decide

/-- The smallest and the largest legal parameters. -/
theorem witness_CheckSetsTheGeometry :
    ParamsLegal { loaded with pwLen := 1, saltLen := 1, outLen := 1, rounds := 0xFFFFFFFF } ∧
    ParamsLegal { loaded with pwLen := 256, saltLen := 256, outLen := 1024, rounds := 1 } := by
  unfold ParamsLegal; decide

/-- The clauses of a port S visit: issue, full slot, answer, error answer, no answer. -/
theorem witness_PasswordDigestStates :
    ((computing .phUpd).outstanding = false ∧ (computing .phUpd).sReq = [] ∧
      (computing .phUpd).pwLen.toNat ≤ (computing .phUpd).params.pwMax) ∧
    ({ issuedS with outstanding := false }.sReq ≠ []) ∧
    ((answeredS .phFin false).outstanding = true ∧
      (answeredS .phFin false).sRsp = some { err := false, data := Vector.replicate 64 0xA5 }) ∧
    ((answeredS .phInit true).outstanding = true ∧
      (answeredS .phInit true).sRsp = some { err := true, data := Vector.replicate 64 0xA5 }) ∧
    (issuedS.outstanding = true ∧ issuedS.sRsp = none) := by decide +kernel

/-- The clauses of a port B visit, and both ends of the loop. -/
theorem witness_ExpansionStates :
    ((computing .bhInit).outstanding = false ∧ (computing .bhInit).bReq = none) ∧
    ({ computing .bhE0s with bReq := some ⟨0x3, zero64, zero64, zeroW⟩ }.bReq ≠ none) ∧
    ((answeredB .bhE0p false).outstanding = true ∧ (answeredB .bhE0p false).iter ≠ 63 ∧
      { answeredB .bhE0p false with iter := 63 }.iter = 63 ∧
      (answeredB .bhE0p false).bRsp = some { err := false, w := Vector.replicate 8 0x12345678 }) ∧
    ((answeredB .bhExp true).bRsp = some { err := true, w := Vector.replicate 8 0x12345678 }) ∧
    ({ answeredB .bhE0s true with bRsp := none }.outstanding = true) := by decide +kernel

theorem witness_EncryptionAndClearStates :
    ((computing .bhEnc).outstanding = false ∧ (computing .bhEnc).bReq = none) ∧
    ({ computing .bhClr with bReq := some ⟨0x5, zero64, zero64, zeroW⟩ }.bReq ≠ none) ∧
    ((answeredB .bhEnc false).bRsp = some { err := false, w := Vector.replicate 8 0x12345678 }) ∧
    ((answeredB .bhClr true).bRsp = some { err := true, w := Vector.replicate 8 0x12345678 }) ∧
    ({ answeredB .bhEnc true with bRsp := none }.outstanding = true) := by decide +kernel

theorem witness_SaltDigestStates :
    ((computing .ssUpd).outstanding = false ∧ (computing .ssUpd).sReq = [] ∧
      (computing .ssUpd).saltLen.toNat ≤ (computing .ssUpd).params.saltMax) ∧
    ({ issuedS with st := .ssUpd, outstanding := false }.sReq ≠ []) ∧
    (answeredS .ssFin false).sRsp = some { err := false, data := Vector.replicate 64 0xA5 } ∧
    (answeredS .ssInit true).sRsp = some { err := true, data := Vector.replicate 64 0xA5 } ∧
    ({ issuedS with st := .ssUpd }.outstanding = true ∧ issuedS.sRsp = none) := by decide +kernel

theorem witness_RehashStates :
    ((computing .rhUpd).outstanding = false ∧ (computing .rhUpd).sReq = []) ∧
    ({ issuedS with st := .rhUpd, outstanding := false }.sReq ≠ []) ∧
    (answeredS .rhFin false).sRsp = some { err := false, data := Vector.replicate 64 0xA5 } ∧
    (answeredS .rhInit true).sRsp = some { err := true, data := Vector.replicate 64 0xA5 } ∧
    ({ issuedS with st := .rhUpd }.outstanding = true ∧ issuedS.sRsp = none) := by decide +kernel

theorem witness_FinishClearsTheDigestContext :
    ((computing .finSclr).outstanding = false ∧ (computing .finSclr).sReq = []) ∧
    ({ issuedS with st := .finSclr, outstanding := false }.sReq ≠ []) ∧
    (answeredS .finSclr false).sRsp = some { err := false, data := Vector.replicate 64 0xA5 } ∧
    (answeredS .finSclr true).sRsp = some { err := true, data := Vector.replicate 64 0xA5 } ∧
    ({ issuedS with st := .finSclr }.outstanding = true ∧ issuedS.sRsp = none) := by decide +kernel

theorem witness_ErrorPathClearsBothEngines :
    ((computing .errSclr).outstanding = false ∧ (computing .errSclr).sReq = [] ∧ (computing .errBclr).bReq = none) ∧
    ({ issuedS with st := .errSclr, outstanding := false }.sReq ≠ [] ∧
      { computing .errBclr with bReq := some ⟨0x5, zero64, zero64, zeroW⟩ }.bReq ≠ none) ∧
    (answeredS .errSclr true).sRsp = some { err := true, data := Vector.replicate 64 0xA5 } ∧
    (answeredB .errBclr true).bRsp = some { err := true, w := Vector.replicate 8 0x12345678 } ∧
    ({ answeredS .errSclr true with sRsp := none }.outstanding = true ∧
      { answeredB .errBclr true with bRsp := none }.outstanding = true) := by decide +kernel

/-- Round 1 and round 2 of two: the first, the last, and the two next states. -/
theorem witness_AccumulatesTheRounds :
    (computing .acc).rndCnt = 1 ∧ (computing .acc).rndCnt.toNat < (computing .acc).rounds.toNat ∧
    { computing .acc with rndCnt := 2 }.rndCnt ≠ 1 ∧
    (computing .acc).rounds.toNat ≤ { computing .acc with rndCnt := 2 }.rndCnt.toNat := by decide

/-- The first block, which leaves 16 bytes, and the second, which places them all. -/
theorem witness_DistributesTheBlock :
    let last : State := { computing .dist with blkCnt := 2, remain := 16 };
    Memory.wf (computing .dist).mem ∧ (computing .dist).amt.toNat ≤ 32 ∧ (computing .dist).outLen.toNat ≤ 1024 ∧
    1 ≤ (computing .dist).stride.toNat ∧ 1 ≤ (computing .dist).blkCnt.toNat ∧
    (computing .dist).remain.toNat ≠ (List.range (min 17 33)).countP (fun i => decide (i * 2 + (1 - 1) < 33)) ∧
    last.remain.toNat = (List.range (min 17 16)).countP (fun i => decide (i * 2 + (2 - 1) < 33)) := by decide

/-- The counters of both blocks' DIST are in their ranges, and the step is taken. -/
theorem witness_DistPlacesTheBlocksShare :
    (CountersInv (computing .dist) ∧ ∃ t, exec .stateDist (computing .dist) = .next t) ∧
    CountersInv { computing .dist with blkCnt := 2, remain := 16 } := by
  refine ⟨⟨fun _ => ?_, ?_⟩, fun _ => ?_⟩
  · unfold ParamsLegal; decide
  · exact (next_of_after (f := fun _ => ()) (a := ()) (by decide)).imp fun _ h => h.1
  · unfold ParamsLegal; decide

theorem witness_FirstErrorIsTheOneRecorded :
    let s := upNext { answeredS .errSclr true with errCode := 0x00030002 } .seq;
    SeqState.onErrorPath s.st = true ∧ Steps s ∧ s.takeEvent.1 ≠ .rst := ⟨rfl, steps_of_after (by decide), by decide⟩

theorem witness_ErrorPathEndsTheRun :
    let s : State :=
      { computing .errSclr with
        abortP := true, agenda := [.seq, .acceptS, .answerS true, .seq, .seq, .acceptB, .answerB false, .seq, .seq] };
    s.st = .errSclr ∧ s.outstanding = false ∧ PortsEmpty s ∧
      s.agenda = [.seq, .acceptS, .answerS true, .seq, .seq, .acceptB, .answerB false, .seq, .seq] ++ [] :=
  ⟨rfl, rfl, ⟨rfl, rfl, rfl, rfl, rfl, rfl⟩, rfl⟩

/-- A write of 1 to every W1C bit: all four flags are 1, the block is idle. -/
theorem witness_ReportIsSticky :
    let s := access { loaded with done := true, err := true, cmdErr := true, wErr := true } true 0x00C 0x1E;
    Steps s ∧ s.takeEvent.1 ≠ .rst ∧ s.cmdErr = true ∧ s.wErr = true ∧ s.err = true ∧ s.done = true ∧ s.st = .idle :=
  ⟨steps_of_after (by decide), by decide, rfl, rfl, rfl, rfl, rfl⟩

theorem witness_StuckWithoutAnAnswer :
    let s := upNext { issuedS with abortP := true } .seq;
    s.outstanding = true ∧ s.st.port ≠ .none ∧ s.sRsp = none ∧ s.bRsp = none ∧ Steps s ∧
      s.takeEvent.1 ≠ .rst ∧ (∀ e, s.takeEvent.1 ≠ .answerS e) ∧ (∀ e, s.takeEvent.1 ≠ .answerB e) :=
  ⟨rfl, by decide, rfl, rfl, steps_of_after (by decide), by decide, by decide, by decide⟩

theorem witness_ShaEngineKeepsItsContract :
    let s : State := { issuedS with mu := .ctx [], params := { issuedS.params with sha := .fips } };
    s.outstanding = true ∧ s.st.port = .portS ∧ s.sRsp = none ∧ s.errDraw = false ∧ s.mu = .ctx [] ∧ s.params.sha = .fips ∧
      { s with errDraw := true }.errDraw = true := by decide

theorem witness_BlowfishEngineKeepsItsContract :
    let s : State := { computing .bhE0s with outstanding := true, sigma := .st [1] };
    s.outstanding = true ∧ s.st.port = .portB ∧ s.bRsp = none ∧ s.errDraw = false ∧ s.sigma = .st [1] ∧
      { s with errDraw := true }.errDraw = true := by decide

theorem witness_ClearedEnginesStillAnswer :
    (issuedS.outstanding = true ∧ issuedS.st.port = .portS ∧ issuedS.sRsp = none ∧ issuedS.errDraw = false ∧
      issuedS.mu = .cleared) ∧
    (let s : State := { computing .bhEnc with outstanding := true };
      s.st.port = .portB ∧ s.bRsp = none ∧ s.errDraw = false ∧ s.sigma = .cleared) := by decide

theorem witness_AnswersAreTakenOnlyWhenAwaited :
    issuedS.sRspReady = true ∧ (answeredB .bhEnc false).bRspReady = true ∧
    loaded.sRspReady = false ∧ loaded.bRspReady = false := by decide

theorem witness_UnusedPortSignalsAreZero :
    loaded.sReq = [] ∧ loaded.bReq = none ∧ encode .shaInit = .portS [.header 0x1 0 0 true] ∧
    encode .bfInit = .portB ⟨0x1, zero64, zero64, zeroW⟩ := ⟨rfl, rfl, rfl, rfl⟩

/-! A state in the middle of a run in which every invariant holds: PH_UPD, its request in the slot. -/

theorem issuedS_memoryInv : MemoryInv issuedS := by
  refine ⟨by decide, ?_⟩
  intro c hc
  have h : c = (0x1000, 0x70) ∨ c = (0x1001, 0x77) ∨ c = (0x2000, 0x73) := by
    simpa [issuedS, computing, loaded] using hc
  rcases h with rfl | rfl | rfl <;> unfold IsBufferByte <;> decide

theorem issuedS_portInv : PortInv issuedS := by
  rw [PortInv, if_pos (show issuedS.outstanding = true from rfl)]
  exact .inl ⟨rfl, rfl, rfl, rfl, .shaUpdate [0x70, 0x77], issuedS.sReq, rfl, rfl, by decide, .inl ⟨rfl, rfl, rfl⟩⟩

theorem issuedS_countersInv : CountersInv issuedS := fun _ => by unfold ParamsLegal; decide

theorem issuedS_reportInv : ReportInv issuedS := by unfold ReportInv; decide

theorem issuedS_idleInv : IdleInv issuedS := ⟨by decide, fun h => absurd h (by decide)⟩

theorem witness_StepKeepsTheMemoryCanonical :
    MemoryInv { issuedS with agenda := [.acceptS] } ∧ Steps (upNext issuedS .acceptS) := ⟨issuedS_memoryInv, steps_of_after (by decide)⟩

theorem witness_StepKeepsThePortDiscipline :
    PortInv { issuedS with agenda := [.acceptS] } ∧ Steps (upNext issuedS .acceptS) := ⟨issuedS_portInv, steps_of_after (by decide)⟩

theorem witness_StepKeepsTheCounterRanges :
    CountersInv { issuedS with agenda := [.acceptS] } ∧ Steps (upNext issuedS .acceptS) := ⟨issuedS_countersInv, steps_of_after (by decide)⟩

theorem witness_StepKeepsTheReportRules :
    ReportInv { issuedS with agenda := [.acceptS] } ∧ Steps (upNext issuedS .acceptS) := ⟨issuedS_reportInv, steps_of_after (by decide)⟩

theorem witness_StepKeepsIdleClean :
    IdleInv { issuedS with agenda := [.acceptS] } ∧ Steps (upNext issuedS .acceptS) := ⟨issuedS_idleInv, steps_of_after (by decide)⟩

theorem witness_StepKeepsTheResidueRules :
    WordBufferInv { issuedS with agenda := [.acceptS] } ∧ OutputInv { issuedS with agenda := [.acceptS] } ∧
      Steps (upNext issuedS .acceptS) := by
  refine ⟨.inl rfl, ⟨fun h => absurd h (by decide), fun _ i _ _ => ?_⟩, steps_of_after (by decide)⟩
  have h1 : 0x3000 + i ≠ 0x1000 := by omega
  have h2 : 0x3000 + i ≠ 0x1001 := by omega
  have h3 : 0x3000 + i ≠ 0x2000 := by omega
  simp [issuedS, computing, loaded, memRead, outBase, h1, h2, h3]

theorem witness_RunsNeverStop : RunInv issuedS :=
  ⟨issuedS_memoryInv, issuedS_portInv, issuedS_countersInv, issuedS_reportInv, issuedS_idleInv⟩

/-- The three faults at the first value past each bound, and two reserved requests. -/
theorem witness_OutOfBufferOperandsFaultAndReservedOpcodesAreRefused :
    (loaded.params.pwMax < { computing .phUpd with pwLen := 257 }.pwLen.toNat ∧
      loaded.params.saltMax < { computing .ssUpd with saltLen := 257 }.saltLen.toNat ∧
      32 < { computing .dist with amt := 33 }.amt.toNat ∧ 1024 < { computing .dist with outLen := 1025 }.outLen.toNat) ∧
    (let s := upNext { loaded with sAcc := [.header 0x5 0 0 true] } (.answerS false);
      s.agenda = [.answerS false] ∧ s.sAcc = [.header 0x5 0 0 true]) ∧
    (let s := upNext { loaded with bAcc := some ⟨0x6, zero64, zero64, zeroW⟩ } (.answerB false);
      s.agenda = [.answerB false] ∧ s.bAcc = some ⟨0x6, zero64, zero64, zeroW⟩ ∧ 0x6 ≤ (0x6 : BitVec 4).toNat) :=
  ⟨by decide, ⟨rfl, rfl⟩, rfl, rfl, by decide⟩

/-- FIN_ZERO's own step, and a host write to PW_LEN that falls before it. -/
theorem witness_BusyKeepsTheInputs :
    (let s := upNext (computing .finZero) .seq;
      s.st ≠ .idle ∧ Steps s ∧ s.takeEvent.1 ≠ .rst ∧ s.takeEvent.1 = .seq ∧ s.st = .finZero) ∧
    (let s := access (computing .finZero) true 0x018 7;
      s.st ≠ .idle ∧ Steps s ∧ s.takeEvent.1 ≠ .rst ∧ s.takeEvent.1 ≠ .seq) :=
  ⟨⟨by decide, steps_of_after (by decide), by decide, rfl, rfl⟩, by decide, steps_of_after (by decide), by decide, by decide⟩

/-- A run that ends in FIN_ZERO, and one that ends in ERR_ZERO. -/
theorem witness_RunsEndWithNoSecret :
    (let s := upNext (computing .finZero) .seq;
      s.st ≠ .idle ∧ (∃ t, step s = .next t ∧ t.st = .idle) ∧ s.takeEvent.1 ≠ .rst) ∧
    (let s := upNext (computing .errZero) .seq;
      s.st ≠ .idle ∧ (∃ t, step s = .next t ∧ t.st = .idle) ∧ s.takeEvent.1 ≠ .rst) :=
  ⟨⟨by decide, next_of_after (by decide), by decide⟩, by decide, next_of_after (by decide), by decide⟩

theorem computing_quiet (st : SeqState) (a : List Event) : QuietBoundary { computing st with agenda := a } :=
  ⟨rfl, rfl, rfl, rfl, rfl, rfl, rfl, rfl⟩

theorem witness_RoundMixingComputesBcryptHash :
    let s : State := { computing .bhInit with agenda := turns hashVisits };
    s.st = .bhInit ∧ QuietBoundary s ∧ s.agenda = turns hashVisits ++ [] :=
  ⟨rfl, computing_quiet _ _, (List.append_nil _).symm⟩

theorem witness_RoundChainComputesTheBlock :
    let visits := turns ([.ssInit, .ssUpd, .ssFin] ++ chainVisits 2);
    let s : State := { computing .ssInit with agenda := visits };
    s.st = .ssInit ∧ QuietBoundary s ∧ ParamsLegal s ∧ s.rndCnt = 1 ∧ s.rounds.toNat = 2 ∧ s.agenda = visits ++ [] := by
  refine ⟨rfl, computing_quiet _ _, ?_, rfl, rfl, (List.append_nil _).symm⟩
  unfold ParamsLegal; decide

theorem witness_UndisturbedRunDerivesTheKey :
    let visits := turns (runVisits ((33 + 31) / 32) 2);
    let s : State := { loaded with st := .check, agenda := visits };
    s.st = .check ∧ QuietBoundary s ∧ ParamsLegal s ∧ MemoryInv s ∧ OutZero s ∧ s.outLen.toNat = 33 ∧
      s.rounds.toNat = 2 ∧ s.agenda = visits ++ [] := by
  refine ⟨rfl, ⟨rfl, rfl, rfl, rfl, rfl, rfl, rfl, rfl⟩, ?_, issuedS_memoryInv, fun i _ => ?_, rfl, rfl,
    (List.append_nil _).symm⟩
  · unfold ParamsLegal; decide
  · have h1 : 0x3000 + i ≠ 0x1000 := by omega
    have h2 : 0x3000 + i ≠ 0x1001 := by omega
    have h3 : 0x3000 + i ≠ 0x2000 := by omega
    simp [loaded, memRead, outBase, h1, h2, h3]

end Sys2Proof.Tests
end

/-! PROOFS. What a step of each agent leaves unchanged while a derivation runs: the host's accesses and the engines' steps as
frame equations, the sequencer's visits for the input registers and windows (spec/10_state.md R10, R29). -/

namespace Sys2Proof.Proofs.Frames

open Sys2Proof.Machine
open Sys2Proof.Laws.WordFormat (Format Format.ofItem Format.ofInstr)

/-! ### The decoder keeps the format -/

theorem decodeWrite_format (off : BitVec 14) (v : Word) : Format.ofInstr (decodeWrite off v) = .hostbus15 := by
  unfold decodeWrite
  split_ifs <;> rfl

theorem decodeBus_format {bits : BitVec 15} {v : Word} {i : Instr} (h : decodeBus bits v = .ok i) :
    Format.ofInstr i = .hostbus15 := by
  unfold decodeBus at h
  dsimp only at h
  split_ifs at h <;> cases h
  · rfl
  · exact decodeWrite_format _ v

theorem decodeCmd_format (w : Word) : Format.ofInstr (decodeCmd w) = .cmd32 := by
  unfold decodeCmd
  split_ifs <;> rfl

theorem decodeState_format {c : BitVec 5} {i : Instr} (h : decode (.state c) = .ok i) : Format.ofInstr i = .state5 := by
  cases hc : SeqState.ofCode c with
  | none => simp [decode, hc] at h
  | some st =>
    obtain rfl : st.instr = i := by simpa [decode, hc] using h
    cases st <;> rfl

theorem decodePortS_format {beats : List SBeat} {i : Instr} (h : decodePortS beats = .ok i) :
    Format.ofInstr i = .portS := by
  unfold decodePortS at h
  split at h
  · split_ifs at h
    · split at h
      · split_ifs at h; cases h; rfl
      · cases h
    all_goals cases h; rfl
  · cases h

theorem decodePortB_format {r : BReq} {i : Instr} (h : decodePortB r = .ok i) : Format.ofInstr i = .portB := by
  unfold decodePortB at h
  split_ifs at h <;> cases h <;> rfl

/-- An item decodes only to instructions of its own format (spec/30_encoding.md R60, R78). -/
theorem decode_format {it : Item} {i : Instr} (h : decode it = .ok i) : Format.ofInstr i = Format.ofItem it := by
  cases it with
  | bus bits v => exact decodeBus_format h
  | cmd w => cases h; exact decodeCmd_format w
  | state c => exact decodeState_format h
  | portS beats => exact decodePortS_format h
  | portB r => exact decodePortB_format h

/-! ### The host while a derivation runs -/

/-- From `s` to `t` nothing but the flags the host may touch while busy and the bus response differs. -/
def HostFrame (s t : State) : Prop :=
  t = { s with
    ieDone := t.ieDone, ieErr := t.ieErr, done := t.done, err := t.err, cmdErr := t.cmdErr, wErr := t.wErr
    abortP := t.abortP, busRsp := t.busRsp }

theorem busy_of_ne_idle {s : State} (h : s.st ≠ .idle) : s.busy = true := decide_eq_true h

theorem execStart_busy {s : State} (hb : s.busy = true) : execStart s = .next s.rejectCmd := if_pos hb

theorem execAbort_busy {s : State} (hb : s.busy = true) : execAbort s = .next { s with abortP := true } := if_pos hb

theorem execZeroize_busy {s : State} (hb : s.busy = true) : execZeroize s = .next s.rejectCmd := if_pos hb

/-- A command word while busy is rejected, pends an abort, or does nothing (R63, R87 to R90). -/
theorem execWr32Cmd_busy_frame (w : Word) {s : State} (hb : s.busy = true) :
    ∃ t, execWr32Cmd w s = .next t ∧ HostFrame s t := by
  have ha : s.ack.busy = true := hb
  unfold execWr32Cmd
  split_ifs
  · exact ⟨_, rfl, rfl⟩
  · exact ⟨_, rfl, rfl⟩
  · exact ⟨_, execStart_busy ha, rfl⟩
  · exact ⟨_, execAbort_busy ha, rfl⟩
  · exact ⟨_, execZeroize_busy ha, rfl⟩
  · exact ⟨_, rfl, rfl⟩

/-- A bus operation while busy: the configuration and window writes are dropped (R83, R91), the others touch flags only. -/
theorem exec_hostbus_busy_frame {i : Instr} (hi : Format.ofInstr i = .hostbus15) {s : State} (hb : s.busy = true) :
    ∃ t, exec i s = .next t ∧ HostFrame s t := by
  cases i with
  | rd32 off => exact ⟨_, rfl, rfl⟩
  | wr32 off v => exact ⟨_, rfl, rfl⟩
  | wr32Ctrl v => exact ⟨_, rfl, rfl⟩
  | wr32Status v => exact ⟨_, rfl, rfl⟩
  | wr32Cmd w => exact execWr32Cmd_busy_frame w hb
  | wr32PwLen v => exact ⟨s.ack.dropWrite, if_pos hb, rfl⟩
  | wr32SaltLen v => exact ⟨s.ack.dropWrite, if_pos hb, rfl⟩
  | wr32OutLen v => exact ⟨s.ack.dropWrite, if_pos hb, rfl⟩
  | wr32Rounds v => exact ⟨s.ack.dropWrite, if_pos hb, rfl⟩
  | wr32Pwbuf k v => exact ⟨s.ack.dropWrite, if_pos hb, rfl⟩
  | wr32Saltbuf k v => exact ⟨s.ack.dropWrite, if_pos hb, rfl⟩
  | _ => cases hi

/-- A host step while busy never stops and stays inside the host's frame. -/
theorem hostStep_busy_frame (a : BusAccess) {s : State} (hb : s.busy = true) :
    ∃ t, hostStep a s = .next t ∧ HostFrame s t := by
  obtain h | h | ⟨i, -, -, hd, h⟩ := hostStep_cases a s
  · exact ⟨_, h, rfl⟩
  · exact ⟨_, h, rfl⟩
  · rw [h]
    exact exec_hostbus_busy_frame (decode_format hd) hb

/-! ### The engines -/

/-- From `s` to `t` nothing but the slots of the ports, the engines' own places and the drawn values differs. -/
def EngineFrame (s t : State) : Prop :=
  t = { s with
    sReq := t.sReq, sRsp := t.sRsp, bReq := t.bReq, bRsp := t.bRsp, sAcc := t.sAcc, mu := t.mu, bAcc := t.bAcc
    sigma := t.sigma, errDraw := t.errDraw, drawn := t.drawn }

theorem acceptS_frame (s : State) : EngineFrame s s.acceptS := by
  obtain ⟨-, -, h⟩ | h := s.acceptS_cases <;> rw [h] <;> rfl

theorem acceptB_frame (s : State) : EngineFrame s s.acceptB := by
  obtain ⟨q, -, -, h⟩ | h := s.acceptB_cases <;> rw [h] <;> rfl

theorem answerS_frame (mu : Mu) (d : Bytes64) (s : State) : EngineFrame s (s.answerS mu d) := by
  obtain ⟨mu', rsp, h, -, -⟩ := s.answerS_cases mu d
  rw [h]; rfl

theorem answerB_frame (sigma : Sigma) (w : Words8) (s : State) : EngineFrame s (s.answerB sigma w) := by
  obtain ⟨sigma', rsp, h, -, -⟩ := s.answerB_cases sigma w
  rw [h]; rfl

theorem EngineFrame.of_errDraw {s t : State} {b : Bool} (h : EngineFrame { s with errDraw := b } t) : EngineFrame s t := h

/-- A port S operation is an answer of the SHA-512 engine, whatever its context (R110 to R113). -/
theorem exec_portS_frame {i : Instr} (hi : Format.ofInstr i = .portS) (s : State) :
    ∃ t, exec i s = .next t ∧ EngineFrame s t := by
  cases i with
  | shaInit => exact ⟨_, rfl, answerS_frame ..⟩
  | shaUpdate p =>
    simp only [exec, execShaUpdate]
    split <;> exact ⟨_, rfl, answerS_frame ..⟩
  | shaFinal =>
    simp only [exec, execShaFinal]
    split <;> exact ⟨_, rfl, answerS_frame ..⟩
  | shaClear => exact ⟨_, rfl, answerS_frame ..⟩
  | _ => cases hi

/-- A port B operation is an answer of the Blowfish-family engine, whatever its state (R114 to R118). -/
theorem exec_portB_frame {i : Instr} (hi : Format.ofInstr i = .portB) (s : State) :
    ∃ t, exec i s = .next t ∧ EngineFrame s t := by
  cases i with
  | bfInit => exact ⟨_, rfl, answerB_frame ..⟩
  | bfExpand a k =>
    simp only [exec, execBfExpand]
    split <;> exact ⟨_, rfl, answerB_frame ..⟩
  | bfExpand0 a =>
    simp only [exec, execBfExpand0]
    split <;> exact ⟨_, rfl, answerB_frame ..⟩
  | bfEncrypt w =>
    simp only [exec, execBfEncrypt]
    split <;> exact ⟨_, rfl, answerB_frame ..⟩
  | bfClear => exact ⟨_, rfl, answerB_frame ..⟩
  | _ => cases hi

theorem answerStepS_frame {err : Bool} {s t : State} (h : answerStepS err s = .next t) : EngineFrame s t := by
  obtain ⟨-, hs⟩ | ⟨i, -, hd, hs⟩ | ⟨r, -, -, hs⟩ := answerStepS_cases err s <;> rw [hs] at h
  · cases h; rfl
  · obtain ⟨u, hu, hf⟩ := exec_portS_frame (decode_format hd) { s with errDraw := err }
    rw [hu] at h; cases h
    exact hf.of_errDraw
  · cases h

theorem answerStepB_frame {err : Bool} {s t : State} (h : answerStepB err s = .next t) : EngineFrame s t := by
  obtain ⟨-, hs⟩ | ⟨q, i, -, hd, hs⟩ | ⟨q, r, -, -, hs⟩ := answerStepB_cases err s <;> rw [hs] at h
  · cases h; rfl
  · obtain ⟨u, hu, hf⟩ := exec_portB_frame (decode_format hd) { s with errDraw := err }
    rw [hu] at h; cases h
    exact hf.of_errDraw
  · cases h

/-! ### The inputs of a run -/

/-- The four configuration registers and every byte of the two input windows are the same in `s` and `t` (R29). -/
structure InputsKept (s t : State) : Prop where
  pwLen : t.pwLen = s.pwLen
  saltLen : t.saltLen = s.saltLen
  outLen : t.outLen = s.outLen
  rounds : t.rounds = s.rounds
  mem : ∀ x, 0x1000 ≤ x → x < 0x3000 → memRead t.mem x = memRead s.mem x

theorem InputsKept.refl (s : State) : InputsKept s s := ⟨rfl, rfl, rfl, rfl, fun _ _ _ => rfl⟩

theorem InputsKept.trans {s t u : State} (h : InputsKept s t) (h' : InputsKept t u) : InputsKept s u :=
  ⟨h'.pwLen.trans h.pwLen, h'.saltLen.trans h.saltLen, h'.outLen.trans h.outLen, h'.rounds.trans h.rounds,
    fun x hl hh => (h'.mem x hl hh).trans (h.mem x hl hh)⟩

/-- An update of other fields keeps the inputs. The equations hold by `rfl` for a record update, and need not be given. -/
theorem InputsKept.of_fields {s t : State} (hp : t.pwLen = s.pwLen := by rfl) (hs : t.saltLen = s.saltLen := by rfl)
    (ho : t.outLen = s.outLen := by rfl) (hr : t.rounds = s.rounds := by rfl) (hm : t.mem = s.mem := by rfl) :
    InputsKept s t :=
  ⟨hp, hs, ho, hr, fun x _ _ => by rw [hm]⟩

theorem HostFrame.inputsKept {s t : State} (h : HostFrame s t) : InputsKept s t := by
  unfold HostFrame at h
  refine .of_fields ?_ ?_ ?_ ?_ ?_ <;> rw [h]

theorem EngineFrame.inputsKept {s t : State} (h : EngineFrame s t) : InputsKept s t := by
  unfold EngineFrame at h
  refine .of_fields ?_ ?_ ?_ ?_ ?_ <;> rw [h]

theorem takeEvent_inputsKept (s : State) : InputsKept s s.takeEvent.2 := by
  obtain ⟨e, rest, -, h⟩ | ⟨-, h⟩ := s.takeEvent_cases <;> rw [h] <;> exact .of_fields

theorem takeEvent_st (s : State) : s.takeEvent.2.st = s.st := by
  obtain ⟨e, rest, -, h⟩ | ⟨-, h⟩ := s.takeEvent_cases <;> rw [h]

/-! ### The sequencer -/

theorem raiseFault_inputsKept (e : ErrKind) (info : BitVec 8) (f : SeqState) (s : State) :
    InputsKept s (s.raiseFault e info f) := .of_fields

theorem takeAbort_inputsKept (s : State) : InputsKept s s.takeAbort := .of_fields

/-- Where the outcome is a next state, the inputs in it are those of `s`. -/
def NextKeepsInputs (s : State) (o : Host.Outcome State Fault Refusal) : Prop := ∀ t, o = .next t → InputsKept s t

theorem InputsKept.next {s t : State} (h : InputsKept s t) : NextKeepsInputs s (.next t) := by
  rintro _ ⟨⟩; exact h

theorem nextKeepsInputs_fault (s : State) (f : Fault) : NextKeepsInputs s (.fault f) := by
  rintro _ ⟨⟩

/-- A port S visit keeps the inputs if its completion does: issue, wait and SHA_FAULT always do. -/
theorem visitS_keepsInputs (here : SeqState) (beats : List SBeat) {complete : Bytes64 → State → State} (s : State)
    (hc : ∀ d t, InputsKept t (complete d t)) : NextKeepsInputs s (.next (s.visitS here beats complete)) := by
  have answered : InputsKept s { s with sRsp := none, outstanding := false } := .of_fields
  refine InputsKept.next ?_
  obtain ⟨-, h⟩ | ⟨-, -, h⟩ | ⟨r, -, -, -, h⟩ | ⟨r, -, -, -, -, h⟩ := s.visitS_cases here beats complete <;> rw [h]
  · obtain ⟨-, hi⟩ | ⟨-, hi⟩ := s.issueS_cases beats <;> rw [hi] <;> exact .of_fields
  · exact .refl s
  · exact answered.trans (hc ..)
  · exact answered.trans (raiseFault_inputsKept ..)

/-- A port B visit keeps the inputs if its completion does: issue, wait and BF_FAULT always do. -/
theorem visitB_keepsInputs (here : SeqState) (q : BReq) {complete : Words8 → State → State} (s : State)
    (hc : ∀ w t, InputsKept t (complete w t)) : NextKeepsInputs s (.next (s.visitB here q complete)) := by
  have answered : InputsKept s { s with bRsp := none, outstanding := false } := .of_fields
  refine InputsKept.next ?_
  obtain ⟨-, h⟩ | ⟨-, -, h⟩ | ⟨r, -, -, -, h⟩ | ⟨r, -, -, -, -, h⟩ := s.visitB_cases here q complete <;> rw [h]
  · obtain ⟨-, hi⟩ | ⟨-, hi⟩ := s.issueB_cases q <;> rw [hi] <;> exact .of_fields
  · exact .refl s
  · exact answered.trans (hc ..)
  · exact answered.trans (raiseFault_inputsKept ..)

theorem execStateCheck_keepsInputs (s : State) : NextKeepsInputs s (execStateCheck s) := by
  unfold execStateCheck
  split_ifs
  · exact (raiseFault_inputsKept ..).next
  · exact InputsKept.next .of_fields

theorem execStatePhUpd_keepsInputs (s : State) : NextKeepsInputs s (execStatePhUpd s) := by
  unfold execStatePhUpd
  split_ifs
  · exact nextKeepsInputs_fault _ _
  · exact visitS_keepsInputs _ _ _ fun _ _ => .of_fields

theorem execStateSsUpd_keepsInputs (s : State) : NextKeepsInputs s (execStateSsUpd s) := by
  unfold execStateSsUpd
  split_ifs
  · exact nextKeepsInputs_fault _ _
  · exact visitS_keepsInputs _ _ _ fun _ _ => .of_fields

theorem execStateBhE0p_keepsInputs (s : State) : NextKeepsInputs s (execStateBhE0p s) :=
  visitB_keepsInputs _ _ _ fun _ t => by split_ifs <;> exact .of_fields

theorem execStateBhEnc_keepsInputs (s : State) : NextKeepsInputs s (execStateBhEnc s) :=
  visitB_keepsInputs _ _ _ fun _ t => by split_ifs <;> exact .of_fields

theorem execStateAcc_keepsInputs (s : State) : NextKeepsInputs s (execStateAcc s) := by
  unfold execStateAcc
  dsimp only
  split_ifs <;> exact InputsKept.next .of_fields

/-- DIST stores from OUTBUF's first byte on, above both input windows (R167). -/
theorem execStateDist_keepsInputs (s : State) : NextKeepsInputs s (execStateDist s) := by
  have hmem : ∀ n bs x, x < 0x3000 → memRead (memScatter s.mem (outBase + n) s.stride.toNat bs) x = memRead s.mem x :=
    fun n bs x hx => memRead_memScatter_below _ _ _ (by unfold outBase; omega)
  unfold execStateDist
  dsimp only
  split_ifs
  · exact nextKeepsInputs_fault _ _
  · exact InputsKept.next ⟨rfl, rfl, rfl, rfl, fun x _ hx => hmem _ _ x hx⟩
  · exact InputsKept.next ⟨rfl, rfl, rfl, rfl, fun x _ hx => hmem _ _ x hx⟩

/-- Every micro-step but FIN_ZERO and ERR_ZERO keeps the inputs (R29). -/
theorem exec_state_keepsInputs {st : SeqState} (hf : st ≠ .finZero) (he : st ≠ .errZero) (s : State) :
    NextKeepsInputs s (exec st.instr s) := by
  cases st with
  | finZero => exact absurd rfl hf
  | errZero => exact absurd rfl he
  | idle => exact (InputsKept.refl s).next
  | check => exact execStateCheck_keepsInputs s
  | phUpd => exact execStatePhUpd_keepsInputs s
  | ssUpd => exact execStateSsUpd_keepsInputs s
  | bhE0p => exact execStateBhE0p_keepsInputs s
  | bhEnc => exact execStateBhEnc_keepsInputs s
  | acc => exact execStateAcc_keepsInputs s
  | dist => exact execStateDist_keepsInputs s
  | bhLdc | bhSer => exact InputsKept.next .of_fields
  | phInit | phFin | ssInit | ssFin | rhInit | rhUpd | rhFin | finSclr | errSclr =>
    exact visitS_keepsInputs _ _ _ fun _ _ => .of_fields
  | bhInit | bhExp | bhE0s | bhClr | errBclr =>
    exact visitB_keepsInputs _ _ _ fun _ _ => .of_fields

theorem execStateFinZero_lengths {s t : State} (h : execStateFinZero s = .next t) :
    t.outLen = s.outLen ∧ t.rounds = s.rounds := by
  cases h; exact ⟨rfl, rfl⟩

theorem execStateErrZero_lengths {s t : State} (h : execStateErrZero s = .next t) :
    t.outLen = s.outLen ∧ t.rounds = s.rounds := by
  cases h; exact ⟨rfl, rfl⟩

/-- A sequencer step keeps the inputs, or it is in FIN_ZERO or ERR_ZERO and keeps OUT_LEN and ROUNDS (R29, R171, R196). -/
theorem seqStep_inputs {s t : State} (h : seqStep s = .next t) :
    InputsKept s t ∨ (s.st = .finZero ∨ s.st = .errZero) ∧ t.outLen = s.outLen ∧ t.rounds = s.rounds := by
  obtain ⟨-, hs⟩ | ⟨-, hs⟩ := seqStep_cases s <;> rw [hs] at h
  · cases h
    exact .inl (takeAbort_inputsKept s)
  · by_cases hf : s.st = .finZero
    · rw [hf] at h
      exact .inr ⟨.inl hf, execStateFinZero_lengths h⟩
    · by_cases he : s.st = .errZero
      · rw [he] at h
        exact .inr ⟨.inr he, execStateErrZero_lengths h⟩
      · exact .inl (exec_state_keepsInputs hf he s t h)

/-! ### One step of any agent -/

/-- While busy every event but the reset keeps the inputs, unless it is the sequencer's own in FIN_ZERO or ERR_ZERO, which
keeps OUT_LEN and ROUNDS (R29). -/
theorem runEvent_busy_inputs {e : Event} {s t : State} (hb : s.st ≠ .idle) (he : e ≠ .rst)
    (h : runEvent e s = .next t) :
    InputsKept s t ∨ (e = .seq ∧ (s.st = .finZero ∨ s.st = .errZero)) ∧ t.outLen = s.outLen ∧ t.rounds = s.rounds := by
  cases e with
  | host a =>
    obtain ⟨u, hu, hf⟩ := hostStep_busy_frame a (busy_of_ne_idle hb)
    obtain rfl : u = t := Host.Outcome.next.inj (hu.symm.trans h)
    exact .inl hf.inputsKept
  | seq =>
    obtain hk | ⟨hz, hl⟩ := seqStep_inputs h
    · exact .inl hk
    · exact .inr ⟨⟨rfl, hz⟩, hl⟩
  | acceptS => cases h; exact .inl (acceptS_frame s).inputsKept
  | answerS err => exact .inl (answerStepS_frame h).inputsKept
  | acceptB => cases h; exact .inl (acceptB_frame s).inputsKept
  | answerB err => exact .inl (answerStepB_frame h).inputsKept
  | rst => exact absurd rfl he

/-- Settles O56, from what each agent's step keeps of the inputs; taking the event off the agenda keeps them too. -/
theorem busyKeepsTheInputs : Obligations.BusyKeepsTheInputs := by
  intro s t hb hstep hrst
  have htake := takeEvent_inputsKept s
  have hst := takeEvent_st s
  obtain hk | ⟨⟨he, hz⟩, ho, hr⟩ := runEvent_busy_inputs (hst ▸ hb) hrst hstep
  · have hkept := htake.trans hk
    exact ⟨hkept.outLen, hkept.rounds, .inr ⟨hkept.pwLen, hkept.saltLen, hkept.mem⟩⟩
  · exact ⟨ho.trans htake.outLen, hr.trans htake.rounds, .inl ⟨he, hst ▸ hz⟩⟩

end Sys2Proof.Proofs.Frames

/-! PROOFS. What the host can reach through the bus (spec/20_memory.md R43, R49): a read's word is the same for any two
contents of the registers and buffer bytes that have no readable address, no access writes a working register, and an illegal
access is answered with the error response alone. -/

namespace Sys2Proof.Proofs.HostAccess

open Sys2Proof.Machine Sys2Proof.Proofs.Frames
open Sys2Proof.Laws.WordFormat (Format.ofInstr)

/-! ### The step of a host access -/

theorem step_of_agenda_cons {s : State} {e : Event} {rest : List Event} (h : s.agenda = e :: rest) :
    step s = runEvent e { s with agenda := rest } := by
  simp [step, State.takeEvent, h]

/-- An access in the region that is not legal gets the error response and nothing else (R43). -/
theorem hostStep_illegal {a : BusAccess} {s : State} (hr : BusAccess.inRegion s.params a = true)
    (hl : BusAccess.legal a = false) : hostStep a s = .next { s with busRsp := .busError } := by
  simp [hostStep, hr, hl]

theorem inRegion_of_bounds {p : Params} {a : BusAccess} (hlo : p.base ≤ a.addr) (hhi : a.addr < p.base + 0x4000) :
    BusAccess.inRegion p a = true := by
  simp [BusAccess.inRegion, hlo, hhi]

/-- An access is illegal by its width, its alignment or its byte lanes (R42, R43). -/
theorem legal_eq_false_iff (a : BusAccess) :
    BusAccess.legal a = false ↔ a.width ≠ .word ∨ a.addr % 4 ≠ 0 ∨ a.lanes ≠ 0xF := by
  simp only [BusAccess.legal, Bool.and_eq_false_iff, decide_eq_false_iff_not, or_assoc, ne_eq]

/-- Settles O9: the access is in the region and not legal, so the host's step is the error response. -/
theorem illegalAccessGetsBusError : Obligations.IllegalAccessGetsBusError := by
  intro s a rest hag hlo hhi hill
  refine ⟨?_, rfl⟩
  rw [step_of_agenda_cons hag]
  exact hostStep_illegal (inRegion_of_bounds hlo hhi) ((legal_eq_false_iff a).2 hill)

/-! ### What a read reveals -/

/-- `s` with other contents of the working registers and of the three buffers. -/
def withSecrets (s : State) (pd sd : Bytes64) (block prev : Bytes32) (cw : Words8) (m : Memory) : State :=
  { s with pd := pd, sd := sd, block := block, prev := prev, cw := cw, mem := m }

/-- The offset is in OUTBUF's window (R47). -/
def InOutWindow (off : BitVec 14) : Prop := 0x3000 ≤ off.toNat ∧ off.toNat < 0x3400

/-- A read in OUTBUF's window is zero while busy, else the four bytes of the word (R47, R81). -/
theorem readWord_of_inOutWindow {off : BitVec 14} (h : InOutWindow off) (s : State) :
    s.readWord off = if s.busy then 0 else readWindow s.mem ((off.toNat - 0x3000) / 4) := by
  obtain ⟨hlo, hhi⟩ := h
  have hne : ∀ c : BitVec 14, c.toNat < 0x3000 → off ≠ c := by
    rintro c hc rfl
    omega
  simp [State.readWord, hne, hlo, hhi]

/-- Outside OUTBUF's window no read is of a buffer or a working register (R49, R81). -/
theorem readWord_withSecrets_of_not_inOutWindow {off : BitVec 14} (h : ¬InOutWindow off) (s : State) (pd sd : Bytes64)
    (block prev : Bytes32) (cw : Words8) (m : Memory) :
    (withSecrets s pd sd block prev cw m).readWord off = s.readWord off := by
  unfold InOutWindow at h
  simp only [State.readWord, if_neg h]
  rfl

/-- A word of OUTBUF depends on OUTBUF's bytes alone. -/
theorem readWindow_congr {m m' : Memory} {k : Nat} (hk : k < 256)
    (h : ∀ i < 1024, memRead m' (0x3000 + i) = memRead m (0x3000 + i)) : readWindow m' k = readWindow m k := by
  simp only [readWindow, outBase]
  rw [h (4 * k) (by omega), h (4 * k + 1) (by omega), h (4 * k + 2) (by omega), h (4 * k + 3) (by omega)]

/-- The word of a read does not depend on the working registers, the input buffers, or, while busy, OUTBUF (R49). -/
theorem readWord_withSecrets (s : State) (off : BitVec 14) (pd sd : Bytes64) (block prev : Bytes32) (cw : Words8)
    {m : Memory} (hout : s.st = .idle → ∀ i < 1024, memRead m (0x3000 + i) = memRead s.mem (0x3000 + i)) :
    (withSecrets s pd sd block prev cw m).readWord off = s.readWord off := by
  by_cases hw : InOutWindow off
  · have hk : (off.toNat - 0x3000) / 4 < 256 := by
      have := hw.2
      omega
    have hbusy : (withSecrets s pd sd block prev cw m).busy = s.busy := rfl
    rw [readWord_of_inOutWindow hw, readWord_of_inOutWindow hw, hbusy]
    by_cases hi : s.st = .idle
    · have hmem : readWindow (withSecrets s pd sd block prev cw m).mem _ = readWindow s.mem _ :=
        readWindow_congr hk (hout hi)
      rw [hmem]
    · rw [if_pos (busy_of_ne_idle hi), if_pos (busy_of_ne_idle hi)]
  · exact readWord_withSecrets_of_not_inOutWindow hw ..

/-- A read with other secrets puts the same word on the bus, and leaves those secrets as they are (R49, R81). -/
theorem exec_rd32_withSecrets (s : State) (off : BitVec 14) (pd sd : Bytes64) (block prev : Bytes32) (cw : Words8)
    {m : Memory} (hout : s.st = .idle → ∀ i < 1024, memRead m (0x3000 + i) = memRead s.mem (0x3000 + i)) :
    exec (.rd32 off) (withSecrets s pd sd block prev cw m) =
      .next { withSecrets s pd sd block prev cw m with busRsp := .data (s.readWord off) } := by
  rw [← readWord_withSecrets s off pd sd block prev cw hout]
  rfl

/-! ### What an access writes -/

/-- The five working registers are the same in `s` and `t`. -/
structure WorkingKept (s t : State) : Prop where
  pd : t.pd = s.pd
  sd : t.sd = s.sd
  block : t.block = s.block
  prev : t.prev = s.prev
  cw : t.cw = s.cw

theorem workingKept_of_hostFrame {s t : State} (h : HostFrame s t) : WorkingKept s t := by
  unfold HostFrame at h
  constructor <;> rw [h]

/-- A command word while idle: START and ZEROIZE write buffers, lengths, flags and STATE only (R63, R87 to R90). -/
theorem execWr32Cmd_idle_workingKept (w : Word) {s : State} (hb : ¬s.busy = true) :
    ∃ t, execWr32Cmd w s = .next t ∧ WorkingKept s t := by
  have ha : ¬s.ack.busy = true := hb
  unfold execWr32Cmd
  split_ifs
  · exact ⟨_, rfl, rfl, rfl, rfl, rfl, rfl⟩
  · exact ⟨_, rfl, rfl, rfl, rfl, rfl, rfl⟩
  · exact ⟨_, if_neg ha, rfl, rfl, rfl, rfl, rfl⟩
  · exact ⟨_, if_neg ha, rfl, rfl, rfl, rfl, rfl⟩
  · exact ⟨_, if_neg ha, rfl, rfl, rfl, rfl, rfl⟩
  · exact ⟨_, rfl, rfl, rfl, rfl, rfl, rfl⟩

/-- A bus operation while idle writes a configuration register, a window, flags, or runs a command (R81 to R86, R91). -/
theorem exec_hostbus_idle_workingKept {i : Instr} (hi : Format.ofInstr i = .hostbus15) {s : State}
    (hb : ¬s.busy = true) : ∃ t, exec i s = .next t ∧ WorkingKept s t := by
  cases i with
  | rd32 | wr32 | wr32Ctrl | wr32Status => exact ⟨_, rfl, rfl, rfl, rfl, rfl, rfl⟩
  | wr32Cmd w => exact execWr32Cmd_idle_workingKept w hb
  | wr32PwLen | wr32SaltLen | wr32OutLen | wr32Rounds | wr32Pwbuf | wr32Saltbuf =>
    exact ⟨_, if_neg hb, rfl, rfl, rfl, rfl, rfl⟩
  | _ => cases hi

/-- No bus operation writes a working register, in any state (R49). -/
theorem exec_hostbus_workingKept {i : Instr} (hi : Format.ofInstr i = .hostbus15) (s : State) :
    ∃ t, exec i s = .next t ∧ WorkingKept s t := by
  by_cases hb : s.busy = true
  · obtain ⟨t, ht, hf⟩ := exec_hostbus_busy_frame hi hb
    exact ⟨t, ht, workingKept_of_hostFrame hf⟩
  · exact exec_hostbus_idle_workingKept hi hb

/-- No host access of any kind writes a working register (R49). -/
theorem hostStep_workingKept {a : BusAccess} {s t : State} (h : hostStep a s = .next t) : WorkingKept s t := by
  obtain hs | hs | ⟨i, -, -, hd, hs⟩ := hostStep_cases a s <;> rw [hs] at h
  · cases h; exact ⟨rfl, rfl, rfl, rfl, rfl⟩
  · cases h; exact ⟨rfl, rfl, rfl, rfl, rfl⟩
  · obtain ⟨u, hu, hk⟩ := exec_hostbus_workingKept (decode_format hd) s
    obtain rfl : u = t := Host.Outcome.next.inj (hu.symm.trans h)
    exact hk

/-- Settles O8: the read's word is the same with any other secrets, and a host step keeps the working registers. -/
theorem hostAccessesNeverReachSecrets : Obligations.HostAccessesNeverReachSecrets := by
  refine ⟨fun s off pd sd block prev cw m hout => ⟨s.readWord off, rfl, ?_⟩, fun s t a rest hag hstep => ?_⟩
  · exact exec_rd32_withSecrets s off pd sd block prev cw hout
  · rw [step_of_agenda_cons hag] at hstep
    obtain ⟨hpd, hsd, hblock, hprev, hcw⟩ := hostStep_workingKept hstep
    exact ⟨hpd, hsd, hblock, hprev, hcw⟩

end Sys2Proof.Proofs.HostAccess

/-! PROOFS. The command words (spec/30_encoding.md R61 to R63): the fields OP and MBZ against the whole word, what each word
decodes to, and what an illegal word does, executed alone or through a write to CMD. -/

namespace Sys2Proof.Proofs.CommandWords

open Sys2Proof.Machine

/-! ### The fields of a command word -/

/-- A command word with no MBZ bit set is its OP field alone (R61). -/
theorem mbz_zero_and_op_iff (w : Word) (op : BitVec 4) :
    w.extractLsb' 4 28 = 0 ∧ w.extractLsb' 0 4 = op ↔ w = op.setWidth 32 := by
  have hop := op.isLt
  have hmbz : w.extractLsb' 4 28 = 0 ↔ w.toNat / 16 = 0 := by
    simp only [BitVec.toNat_eq, BitVec.extractLsb'_toNat, Nat.shiftRight_eq_div_pow]
    bv_omega
  have hlow : w.extractLsb' 0 4 = op ↔ w.toNat % 16 = op.toNat := by
    simp only [BitVec.toNat_eq, BitVec.extractLsb'_toNat, Nat.shiftRight_zero, Nat.reducePow]
  have hword : w = op.setWidth 32 ↔ w.toNat = op.toNat := by bv_omega
  rw [hmbz, hlow, hword]
  omega

/-- The decoder's test for one command, both fields taken together, compares the whole word (R62). -/
theorem op_iff_word {w : Word} (hmbz : w.extractLsb' 4 28 = 0) (op : BitVec 4) :
    w.extractLsb' 0 4 = op ↔ w = op.setWidth 32 := by
  rw [← mbz_zero_and_op_iff, and_iff_right hmbz]

/-- A word with an MBZ bit set, or with an OP from 0x4 to 0xF, is none of the four legal words (R62, R63). -/
theorem ne_legal_of_illegal_fields {w : Word} (h : w.extractLsb' 4 28 ≠ 0 ∨ 4 ≤ (w.extractLsb' 0 4).toNat) :
    w ≠ 0 ∧ w ≠ 1 ∧ w ≠ 2 ∧ w ≠ 3 := by
  have hne (op : BitVec 4) (hop : op.toNat < 4) : w ≠ op.setWidth 32 := by
    intro hw
    obtain ⟨hmbz, rfl⟩ := (mbz_zero_and_op_iff w op).2 hw
    obtain hm | hr := h
    · exact hm hmbz
    · omega
  exact ⟨hne 0 (by decide), hne 1 (by decide), hne 2 (by decide), hne 3 (by decide)⟩

/-! ### What a command word decodes to -/

/-- The decoder by whole words: the four legal values of R62, every other word illegal. -/
theorem decodeCmd_eq (w : Word) :
    decodeCmd w =
      if w = 0 then .nop else if w = 1 then .start else if w = 2 then .abort else if w = 3 then .zeroize
      else .cmdIllegal w := by
  unfold decodeCmd
  by_cases hmbz : w.extractLsb' 4 28 = 0
  · simp [hmbz, op_iff_word hmbz]
  · obtain ⟨h0, h1, h2, h3⟩ := ne_legal_of_illegal_fields (.inl hmbz)
    rw [if_pos hmbz, if_neg h0, if_neg h1, if_neg h2, if_neg h3]

/-- Settles O4: the decoder by whole words, in each of its five cases. -/
theorem commandWordsAreExactlyFour : Obligations.CommandWordsAreExactlyFour := by
  intro w
  simp only [decode, Decoded.ok.injEq, decodeCmd_eq]
  split_ifs with h0 h1 h2 h3
  · subst h0; simp
  · subst h1; simp
  · subst h2; simp
  · subst h3; simp
  · exact ⟨iff_of_false nofun h0, iff_of_false nofun h1, iff_of_false nofun h2, iff_of_false nofun h3,
      iff_of_true rfl ⟨h0, h1, h2, h3⟩⟩

/-- An MBZ bit, or an OP from 0x4 to 0xF, makes a word illegal (R63). -/
theorem decodeCmd_illegal {w : Word} (h : w.extractLsb' 4 28 ≠ 0 ∨ 4 ≤ (w.extractLsb' 0 4).toNat) :
    decodeCmd w = .cmdIllegal w := by
  obtain ⟨h0, h1, h2, h3⟩ := ne_legal_of_illegal_fields h
  rw [decodeCmd_eq, if_neg h0, if_neg h1, if_neg h2, if_neg h3]

/-! ### What a command word does -/

/-- A write to CMD completes on the bus and executes the instruction its word decodes to (R86). -/
theorem exec_wr32Cmd (w : Word) (s : State) : exec (.wr32Cmd w) s = exec (decodeCmd w) s.ack := by
  change execWr32Cmd w s = _
  unfold execWr32Cmd decodeCmd
  split_ifs <;> rfl

/-- An illegal command word sets CMDERR and nothing else (R63). -/
theorem exec_cmdIllegal (w : Word) (s : State) : exec (.cmdIllegal w) s = .next { s with cmdErr := true } := rfl

/-- Settles O17: the word decodes to the illegal command, and a write to CMD executes what its word decodes to. -/
theorem illegalCommandOnlySetsCmdErr : Obligations.IllegalCommandOnlySetsCmdErr := by
  intro s w h
  have hdecode : decodeCmd w = .cmdIllegal w := decodeCmd_illegal h
  refine ⟨congrArg Decoded.ok hdecode, exec_cmdIllegal w s, ?_⟩
  rw [exec_wr32Cmd, hdecode, exec_cmdIllegal]
  rfl

end Sys2Proof.Proofs.CommandWords

/-! PROOFS. What RD32 returns (spec/40_host_commands.md R81): a register word as fields at their bits, read back field by field
(spec/30_encoding.md R64 to R69), the byte lanes of a word of OUTBUF, and the word the map gives at an offset. -/

namespace Sys2Proof.Proofs.HostReads

open Sys2Proof.Machine Sys2Proof.Proofs.Frames Sys2Proof.Proofs.HostAccess

/-! ### Fields of a word -/

/-- The word that holds `x` from bit `k` up and zeros elsewhere. -/
def fieldAt {w : Nat} (x : BitVec w) (k : Nat) : Word := x.setWidth 32 <<< k

theorem getLsbD_fieldAt {w : Nat} (x : BitVec w) (k i : Nat) :
    (fieldAt x k).getLsbD i = (decide (i < 32) && decide (k ≤ i) && x.getLsbD (i - k)) := by
  simp only [fieldAt, BitVec.getLsbD_shiftLeft, BitVec.getLsbD_setWidth]
  grind

/-- A field is read back at its own place. -/
theorem extractLsb'_fieldAt_same {w : Nat} (x : BitVec w) {k : Nat} (h : k + w ≤ 32) :
    (fieldAt x k).extractLsb' k w = x := by
  refine BitVec.eq_of_getLsbD_eq fun i hi => ?_
  have hlt : k + i < 32 := by omega
  rw [BitVec.getLsbD_extractLsb', getLsbD_fieldAt]
  simp [hi, hlt]

/-- Bits below a field and bits above it are zero. -/
theorem extractLsb'_fieldAt_disjoint {w : Nat} (x : BitVec w) {k lo n : Nat} (h : lo + n ≤ k ∨ k + w ≤ lo) :
    (fieldAt x k).extractLsb' lo n = 0 := by
  refine BitVec.eq_of_getLsbD_eq fun i hi => ?_
  rw [BitVec.getLsbD_extractLsb', getLsbD_fieldAt]
  obtain h | h := h
  · have hbelow : ¬k ≤ lo + i := by omega
    simp [hbelow]
  · have habove : w ≤ lo + i - k := by omega
    simp [habove]

/-- A flag in a register word is a field of one bit. -/
theorem bitAt_eq_fieldAt (b : Bool) (k : Nat) : bitAt b k = fieldAt (BitVec.ofBool b) k := by
  cases b
  · simp [bitAt, fieldAt]
  · refine BitVec.eq_of_toNat_eq ?_
    simp only [bitAt, fieldAt, BitVec.toNat_ofNat, BitVec.toNat_shiftLeft, if_true]
    simp [Nat.shiftLeft_eq]

theorem getLsbD_bitAt (b : Bool) (k i : Nat) : (bitAt b k).getLsbD i = (b && decide (i < 32) && decide (i = k)) := by
  rw [bitAt_eq_fieldAt, getLsbD_fieldAt, BitVec.getLsbD_ofBool]
  grind

theorem extractLsb'_bitAt_above (b : Bool) {k lo n : Nat} (h : k < lo) : (bitAt b k).extractLsb' lo n = 0 := by
  rw [bitAt_eq_fieldAt, extractLsb'_fieldAt_disjoint _ (.inr h)]

/-! ### The register words -/

/-- CTRL (R64). -/
theorem ctrlWord_fields (s : State) :
    s.ctrlWord.getLsbD 0 = s.ieDone ∧ s.ctrlWord.getLsbD 1 = s.ieErr ∧ s.ctrlWord.extractLsb' 2 30 = 0 := by
  simp (disch := omega) only [State.ctrlWord, BitVec.getLsbD_or, getLsbD_bitAt, BitVec.extractLsb'_or,
    extractLsb'_bitAt_above]
  simp

/-- STATUS, with BUSY and IRQ derived (R65, R16, R199). -/
theorem statusWord_fields (s : State) :
    s.statusWord.getLsbD 0 = decide (s.st ≠ .idle) ∧ s.statusWord.getLsbD 1 = s.done ∧ s.statusWord.getLsbD 2 = s.err ∧
      s.statusWord.getLsbD 3 = s.cmdErr ∧ s.statusWord.getLsbD 4 = s.wErr ∧
      s.statusWord.getLsbD 5 = ((s.done && s.ieDone) || (s.err && s.ieErr)) ∧ s.statusWord.getLsbD 6 = s.abortP ∧
      s.statusWord.extractLsb' 7 25 = 0 := by
  simp (disch := omega) only [State.statusWord, BitVec.getLsbD_or, getLsbD_bitAt, BitVec.extractLsb'_or,
    extractLsb'_bitAt_above]
  simp [State.busy, State.irq]

/-- GEOM (R67). -/
theorem geomWord_fields (s : State) :
    s.geomWord.extractLsb' 0 6 = s.stride ∧ s.geomWord.extractLsb' 6 2 = 0 ∧ s.geomWord.extractLsb' 8 6 = s.amt ∧
      s.geomWord.extractLsb' 14 2 = 0 ∧ s.geomWord.extractLsb' 16 11 = s.remain ∧
      s.geomWord.extractLsb' 27 5 = 0 := by
  have hword : s.geomWord = fieldAt s.remain 16 ||| fieldAt s.amt 8 ||| fieldAt s.stride 0 := by
    simp only [State.geomWord, fieldAt, BitVec.shiftLeft_zero]
  simp (disch := omega) [hword, BitVec.extractLsb'_or, extractLsb'_fieldAt_same, extractLsb'_fieldAt_disjoint]

/-- FSM (R68). -/
theorem fsmWord_fields (s : State) :
    s.fsmWord.extractLsb' 0 5 = s.st.code ∧ s.fsmWord.extractLsb' 5 3 = 0 ∧ s.fsmWord.getLsbD 8 = s.outstanding ∧
      s.fsmWord.extractLsb' 9 7 = 0 ∧ s.fsmWord.extractLsb' 16 6 = s.iter ∧ s.fsmWord.extractLsb' 22 10 = 0 := by
  have hword : s.fsmWord = fieldAt s.iter 16 ||| fieldAt (BitVec.ofBool s.outstanding) 8 ||| fieldAt s.st.code 0 := by
    simp only [State.fsmWord, bitAt_eq_fieldAt, fieldAt, BitVec.shiftLeft_zero]
  have hflag : s.fsmWord.getLsbD 8 = s.outstanding := by
    rw [hword]
    simp only [BitVec.getLsbD_or, getLsbD_fieldAt]
    simp
  rw [hflag, hword]
  simp (disch := omega) [BitVec.extractLsb'_or, extractLsb'_fieldAt_same, extractLsb'_fieldAt_disjoint]

/-- A capacity is at most 4096 (R5), so it needs 13 bits. -/
theorem ofNat_eq_fieldAt {n : Nat} (h : n ≤ 4096) : BitVec.ofNat 32 n = fieldAt (BitVec.ofNat 13 n) 0 := by
  refine BitVec.eq_of_toNat_eq ?_
  simp only [fieldAt, BitVec.shiftLeft_zero, BitVec.toNat_setWidth, BitVec.toNat_ofNat]
  omega

/-- PARAM (R69). -/
theorem paramWord_fields (s : State) :
    (s.paramWord.extractLsb' 0 13).toNat = s.params.pwMax ∧ s.paramWord.extractLsb' 13 3 = 0 ∧
      (s.paramWord.extractLsb' 16 13).toNat = s.params.saltMax ∧ s.paramWord.extractLsb' 29 3 = 0 := by
  have hp : s.params.pwMax ≤ 4096 := s.params.pwMaxLess1.isLt
  have hs : s.params.saltMax ≤ 4096 := s.params.saltMaxLess1.isLt
  have hword : s.paramWord =
      fieldAt (BitVec.ofNat 13 s.params.saltMax) 16 ||| fieldAt (BitVec.ofNat 13 s.params.pwMax) 0 := by
    rw [State.paramWord, ofNat_eq_fieldAt hp, ofNat_eq_fieldAt hs]
    simp [fieldAt]
  simp (disch := omega) [hword, BitVec.extractLsb'_or, extractLsb'_fieldAt_same, extractLsb'_fieldAt_disjoint,
    Nat.mod_eq_of_lt]

/-! ### A word of OUTBUF -/

theorem toNat_wordLE (b0 b1 b2 b3 : Byte) :
    (wordLE b0 b1 b2 b3).toNat = b0.toNat + b1.toNat * 2 ^ 8 + b2.toNat * 2 ^ 16 + b3.toNat * 2 ^ 24 := by
  rw [wordLE, BitVec.toNat_ofNat]
  omega

theorem byteOf_eq_iff (v : Word) (j : Nat) (b : Byte) : byteOf v j = b ↔ v.toNat / 2 ^ (8 * j) % 2 ^ 8 = b.toNat := by
  rw [byteOf, BitVec.toNat_eq, BitVec.extractLsb'_toNat, Nat.shiftRight_eq_div_pow]

/-- The four byte lanes of a little-endian word (R6, R44). -/
theorem byteOf_wordLE (b0 b1 b2 b3 : Byte) :
    byteOf (wordLE b0 b1 b2 b3) 0 = b0 ∧ byteOf (wordLE b0 b1 b2 b3) 1 = b1 ∧ byteOf (wordLE b0 b1 b2 b3) 2 = b2 ∧
      byteOf (wordLE b0 b1 b2 b3) 3 = b3 := by
  simp only [byteOf_eq_iff, toNat_wordLE]
  omega

/-- Lane j of word k of OUTBUF is its byte 4k + j (R44, R47). -/
theorem byteOf_readWindow (m : Memory) (k : Nat) {j : Nat} (hj : j < 4) :
    byteOf (readWindow m k) j = memRead m (outBase + (4 * k + j)) := by
  obtain ⟨h0, h1, h2, h3⟩ := byteOf_wordLE (memRead m (outBase + 4 * k)) (memRead m (outBase + (4 * k + 1)))
    (memRead m (outBase + (4 * k + 2))) (memRead m (outBase + (4 * k + 3)))
  interval_cases j
  · exact h0
  · exact h1
  · exact h2
  · exact h3

/-! ### The map -/

theorem toNat_mod_four_of_aligned {off : BitVec 14} (h : aligned off = true) : off.toNat % 4 = 0 := by
  simpa [aligned, BitVec.toNat_eq] using h

theorem not_busy_of_idle {s : State} (h : s.st = .idle) : ¬s.busy = true := by
  simp [State.busy, h]

/-- Above PARAM every offset outside OUTBUF's window reads as zero: the input windows and the reserved offsets (R41, R45, R46,
R81). -/
theorem readWord_of_unmapped {off : BitVec 14} (hlo : 0x03C ≤ off.toNat) (hw : ¬InOutWindow off) (s : State) :
    s.readWord off = 0 := by
  have hne : ∀ c : BitVec 14, c.toNat < 0x03C → off ≠ c := by
    rintro c hc rfl
    omega
  unfold InOutWindow at hw
  simp [State.readWord, hne, hw]

/-- While idle, lane j of a word-aligned read of OUTBUF is the byte at that offset (R47, R81). -/
theorem byteOf_readWord_outbuf {off : BitVec 14} (ha : aligned off = true) (hw : InOutWindow off) {s : State}
    (hi : s.st = .idle) {j : Nat} (hj : j < 4) : byteOf (s.readWord off) j = memRead s.mem (off.toNat + j) := by
  have hmod := toNat_mod_four_of_aligned ha
  have haddr : outBase + (4 * ((off.toNat - 0x3000) / 4) + j) = off.toNat + j := by
    have := hw.1
    unfold outBase
    omega
  rw [readWord_of_inOutWindow hw, if_neg (not_busy_of_idle hi), byteOf_readWindow _ _ hj, haddr]

/-- Settles O7: the read's word is `State.readWord`, offset by offset. -/
theorem readsReturnTheMappedWord : Obligations.ReadsReturnTheMappedWord := by
  intro s off ha
  refine ⟨s.readWord off, rfl, ?id, ?version, ?ctrl, ?status, ?cmd, ?errCode, ?pwLen, ?saltLen, ?outLen, ?rounds, ?blkCnt,
    ?rndCnt, ?geom, ?fsm, ?param, ?inputs, ?outBusy, ?outIdle, ?reserved⟩
  case ctrl => rintro rfl; exact ctrlWord_fields s
  case status => rintro rfl; exact statusWord_fields s
  case geom => rintro rfl; exact geomWord_fields s
  case fsm => rintro rfl; exact fsmWord_fields s
  case param => rintro rfl; exact paramWord_fields s
  case inputs =>
    intro hlo hhi
    exact readWord_of_unmapped hlo (fun hw => absurd hw.1 (by omega)) s
  case reserved =>
    intro hlo
    exact readWord_of_unmapped (by omega) (fun hw => absurd hw.2 (by omega)) s
  case outBusy =>
    intro hlo hhi hb
    rw [readWord_of_inOutWindow ⟨hlo, hhi⟩, if_pos (busy_of_ne_idle hb)]
  case outIdle =>
    intro hlo hhi hi j hj
    exact byteOf_readWord_outbuf ha ⟨hlo, hhi⟩ hi hj
  all_goals
    rintro rfl
    rfl

end Sys2Proof.Proofs.HostReads

/-! PROOFS. What a host write does (spec/40_host_commands.md R83 to R85, R91, R92): the configuration registers, CTRL, STATUS,
the two input windows byte by byte, and the writes that no rule gives an effect. -/

namespace Sys2Proof.Proofs.HostWrites

open Sys2Proof.Machine Sys2Proof.Proofs.Frames Sys2Proof.Proofs.HostAccess Sys2Proof.Proofs.HostReads

/-! ### Registers -/

/-- Settles O10: each of the four writes tests BUSY alone. -/
theorem configurationWritesHoldOnlyWhileIdle : Obligations.ConfigurationWritesHoldOnlyWhileIdle := by
  intro s v
  refine ⟨fun hi => ?_, fun hb => ?_⟩
  · have hidle : ¬s.busy = true := not_busy_of_idle hi
    exact ⟨if_neg hidle, if_neg hidle, if_neg hidle, if_neg hidle⟩
  · have hbusy : s.busy = true := busy_of_ne_idle hb
    simp only [List.forall_mem_cons]
    exact ⟨if_pos hbusy, if_pos hbusy, if_pos hbusy, if_pos hbusy, nofun⟩

/-- Settles O11: the write replaces the two enables, of which the interrupt output is a function. -/
theorem ctrlWriteSetsEnablesAtOnce : Obligations.CtrlWriteSetsEnablesAtOnce :=
  fun _ _ => ⟨_, rfl, rfl, rfl⟩

/-- Write 1 to clear: the flag is kept where the written bit is 0 (R65, R85). -/
theorem and_not_eq_ite (flag bit : Bool) : (flag && !bit) = if bit then false else flag := by
  cases bit <;> simp

/-- Settles O12: each of the four flags is written by the same write-1-to-clear rule. -/
theorem statusWriteClearsWhatIsOne : Obligations.StatusWriteClearsWhatIsOne :=
  fun _ _ => ⟨_, rfl, rfl, and_not_eq_ite .., and_not_eq_ite .., and_not_eq_ite .., and_not_eq_ite ..⟩

/-! ### Input windows -/

/-- Byte lane j of a window word is stored at byte 4k + j, below the capacity (R45, R91). -/
theorem memRead_writeWindow_lane {m : Memory} (hm : Memory.wf m) (base : Nat) {cap k j : Nat} (v : Word) (hj : j < 4)
    (hcap : 4 * k + j < cap) : memRead (writeWindow base cap k v m) (base + (4 * k + j)) = byteOf v j := by
  have hsub : base + (4 * k + j) - (base + 4 * k) = j := by omega
  rw [memRead_writeWindow hm, if_pos (by omega), hsub]

/-- A byte that no lane below the capacity goes to is as it was (R45, R91). -/
theorem memRead_writeWindow_other {m : Memory} (hm : Memory.wf m) {base cap k x : Nat} (v : Word)
    (hx : ∀ j < 4, 4 * k + j < cap → x ≠ base + (4 * k + j)) :
    memRead (writeWindow base cap k v m) x = memRead m x := by
  rw [memRead_writeWindow hm, if_neg]
  rintro ⟨hlo, hhi, hcap⟩
  exact hx (x - (base + 4 * k)) (by omega) (by omega) (by omega)

/-- Settles O13: what a window word stores, lane by lane, and that both windows lie where the map reads as zero. -/
theorem inputWindowWritesStoreLanes : Obligations.InputWindowWritesStoreLanes := by
  intro s k v hm
  refine ⟨fun hi => ?_, fun hb => ?_, fun off hlo hhi => ?_⟩
  · have hidle : ¬s.busy = true := not_busy_of_idle hi
    exact ⟨⟨_, if_neg hidle, fun _ => memRead_writeWindow_lane hm _ v, fun _ => memRead_writeWindow_other hm v⟩,
      ⟨_, if_neg hidle, fun _ => memRead_writeWindow_lane hm _ v, fun _ => memRead_writeWindow_other hm v⟩⟩
  · have hbusy : s.busy = true := busy_of_ne_idle hb
    exact ⟨if_pos hbusy, if_pos hbusy⟩
  · have hzero : s.readWord off = 0 := readWord_of_unmapped (by omega) (fun hw => absurd hw.1 (by omega)) s
    exact congrArg (fun w => Host.Outcome.next { s with busRsp := .data w }) hzero

/-! ### Writes without effect -/

/-- The offset's two upper bits are the number of its 0x1000-byte page. -/
theorem page_eq_iff (off : BitVec 14) (p : BitVec 2) : off.extractLsb' 12 2 = p ↔ off.toNat / 0x1000 = p.toNat := by
  have := off.isLt
  simp only [BitVec.toNat_eq, BitVec.extractLsb'_toNat, Nat.shiftRight_eq_div_pow]
  omega

/-- Outside the seven registers and the two windows the decoder falls back to WR32 (R78, R92). -/
theorem decodeWrite_other {off : BitVec 14} (v : Word)
    (hreg : off ∉ [0x008, 0x00C, 0x010, 0x018, 0x01C, 0x020, 0x024]) (hwin : off.toNat < 0x1000 ∨ 0x3000 ≤ off.toNat) :
    decodeWrite off v = .wr32 off v := by
  have hpw : off.extractLsb' 12 2 ≠ 1 := by
    rw [Ne, page_eq_iff]
    change off.toNat / 0x1000 ≠ 1
    omega
  have hsalt : off.extractLsb' 12 2 ≠ 2 := by
    rw [Ne, page_eq_iff]
    change off.toNat / 0x1000 ≠ 2
    omega
  simp only [List.mem_cons, List.not_mem_nil, or_false, not_or] at hreg
  obtain ⟨hctrl, hstatus, hcmd, hpwLen, hsaltLen, houtLen, hrounds⟩ := hreg
  rw [decodeWrite, if_neg hctrl, if_neg hstatus, if_neg hcmd, if_neg hpwLen, if_neg hsaltLen, if_neg houtLen,
    if_neg hrounds, if_neg hpw, if_neg hsalt]

/-- A HOSTBUS15 item of an aligned write is decoded by its offset (R78). -/
theorem decode_busWrite {off : BitVec 14} (v : Word) (ha : off.extractLsb' 0 2 = 0) :
    decode (.bus (busWrite off) v) = .ok (decodeWrite off v) := by
  have hoff : (busWrite off).extractLsb' 0 14 = off := BitVec.extractLsb'_append_eq_right
  have hdir : (busWrite off).extractLsb' 14 1 = 1#1 := BitVec.extractLsb'_append_eq_left
  simp [decode, decodeBus, hoff, hdir, ha]

/-- Settles O14: such a write decodes to the fall-back row, which only completes on the bus. -/
theorem otherWritesHaveNoEffect : Obligations.OtherWritesHaveNoEffect := by
  intro s off v ha hreg hwin
  exact ⟨by rw [decode_busWrite v ha, decodeWrite_other v hreg hwin], rfl⟩

end Sys2Proof.Proofs.HostWrites

/-! PROOFS. What each command does (spec/40_host_commands.md R86 to R90): a write to CMD by its word, NOP, START, ABORT with the
abort step of spec/60_exceptions.md R191, and ZEROIZE. -/

namespace Sys2Proof.Proofs.Commands

open Sys2Proof.Machine Sys2Proof.Proofs.Frames Sys2Proof.Proofs.HostAccess Sys2Proof.Proofs.HostReads
open Sys2Proof.Proofs.CommandWords
open Sys2Proof.Laws.WordFormat (Format.ofInstr)
open Sys2Proof.Safety (IsBufferByte)

/-! ### CMD and NOP -/

/-- Settles O15: the two fields of a legal word fix the word, and an illegal word only sets CMDERR. -/
theorem commandWriteRunsTheCommand : Obligations.CommandWriteRunsTheCommand := by
  intro s w
  have hillegal (h : w.extractLsb' 4 28 ≠ 0 ∨ 4 ≤ (w.extractLsb' 0 4).toNat) :
      exec (.wr32Cmd w) s = .next { s with busRsp := .written, cmdErr := true } := by
    obtain ⟨-, -, hwrite⟩ := illegalCommandOnlySetsCmdErr s w h
    exact hwrite
  have hbus : Format.ofInstr (.wr32Cmd w) = .hostbus15 := rfl
  obtain ⟨t, ht, -⟩ := exec_hostbus_workingKept hbus s
  refine ⟨fun h => hillegal (.inl h), fun hmbz => ?_, t, ht⟩
  have hlegal (op : BitVec 4) (hop : w.extractLsb' 0 4 = op) :
      exec (.wr32Cmd w) s = exec (decodeCmd (op.setWidth 32)) { s with busRsp := .written } := by
    rw [exec_wr32Cmd, ← (op_iff_word hmbz op).1 hop]
    rfl
  exact ⟨hlegal 0, hlegal 1, hlegal 2, hlegal 3, fun h => hillegal (.inr h)⟩

/-- Settles O16: the meaning of NOP is the state itself. -/
theorem nopChangesNothing : Obligations.NopChangesNothing := fun _ => rfl

/-! ### START and ZEROIZE -/

/-- After OUTBUF is zeroed its bytes read 0 and every other byte as before (R88). -/
theorem memRead_zeroOut (s : State) (x : Nat) :
    memRead s.zeroOut.mem x = if 0x3000 ≤ x ∧ x < 0x3400 then 0 else memRead s.mem x :=
  memRead_memZero ..

/-- Settles O18: BUSY decides, and while idle the memory changes by zeroing OUTBUF alone. -/
theorem startEntersCheckOnlyFromIdle : Obligations.StartEntersCheckOnlyFromIdle := by
  refine fun s => ⟨fun hb => execStart_busy (busy_of_ne_idle hb), fun hi => ?_⟩
  refine ⟨s.zeroOut.mem, if_neg (not_busy_of_idle hi), fun i hlt => ?_, fun x hx => ?_⟩
  · rw [memRead_zeroOut, if_pos (by omega)]
  · rw [memRead_zeroOut, if_neg (by omega)]

/-- After the three buffers are zeroed each of their bytes reads 0 and every other byte as before (R90). -/
theorem memRead_zeroBuffers (s : State) (x : Nat) :
    (IsBufferByte s.params x → memRead s.zeroOut.zeroInputs.mem x = 0) ∧
      (¬IsBufferByte s.params x → memRead s.zeroOut.zeroInputs.mem x = memRead s.mem x) := by
  rw [State.zeroInputs_mem, State.zeroOut_params, State.zeroOut_mem]
  simp only [memRead_memZero, IsBufferByte]
  grind

/-- Settles O20: BUSY decides, and while idle the memory changes by zeroing the three buffers alone. -/
theorem zeroizeWipesOnlyWhileIdle : Obligations.ZeroizeWipesOnlyWhileIdle := by
  refine fun s => ⟨fun hb => execZeroize_busy (busy_of_ne_idle hb), fun hi => ?_⟩
  have hzero {x : Nat} (hx : IsBufferByte s.params x) : memRead s.zeroOut.zeroInputs.mem x = 0 :=
    (memRead_zeroBuffers s x).1 hx
  have hinBuffer {base i n : Nat} (h : i < n) : base ≤ base + i ∧ base + i < base + n := by omega
  exact ⟨s.zeroOut.zeroInputs.mem, if_neg (not_busy_of_idle hi), fun i h => hzero (.inr (.inr (hinBuffer h))),
    fun i h => hzero (.inl (hinBuffer h)), fun i h => hzero (.inr (.inl (hinBuffer h))),
    fun x => (memRead_zeroBuffers s x).2⟩

/-! ### ABORT -/

theorem onErrorPath_iff (st : SeqState) : SeqState.onErrorPath st = true ↔ st ∈ [.errSclr, .errBclr, .errZero] := by
  cases st <;> decide

/-- The word the abort step records: CODE 4 and the state it replaces (R66, R187, R191). -/
theorem errCodeWord_aborted (f : SeqState) : errCodeWord .aborted 0 f = 0x00000004 ||| (f.code.setWidth 32 <<< 16) := by
  simp [errCodeWord, ErrKind.code]

/-- The abort step (R191). -/
theorem takeAbort_eq (s : State) :
    s.takeAbort =
      { s with
        abortP := false, st := .errSclr
        errCode := 0x00000004 ||| (s.st.code.setWidth 32 <<< 16) } := by
  rw [← errCodeWord_aborted]
  rfl

theorem seqStep_of_abortDue {s : State} (h : s.abortDue = true) : seqStep s = .next s.takeAbort := if_pos h

theorem seqStep_of_not_abortDue {s : State} (h : ¬s.abortDue = true) : seqStep s = exec s.st.instr s := by
  obtain ⟨hdue, -⟩ | ⟨-, hs⟩ := seqStep_cases s
  · exact absurd hdue h
  · exact hs

/-- Settles O19: BUSY decides what ABORT does, and the sequencer's step takes the abort exactly where one is due. -/
theorem abortIsTakenAtAVisitBoundary : Obligations.AbortIsTakenAtAVisitBoundary := by
  refine fun s => ⟨fun hb => execAbort_busy (busy_of_ne_idle hb), fun hi => if_neg (not_busy_of_idle hi),
    fun rest hag hp ho hst => ?_, fun rest hag h => ?_⟩
  · rw [List.mem_cons, not_or, ← onErrorPath_iff, Bool.not_eq_true] at hst
    obtain ⟨hidle, hpath⟩ := hst
    have hdue : ({ s with agenda := rest } : State).abortDue = true := (State.abortDue_iff _).2 ⟨hp, ho, hidle, hpath⟩
    rw [step_of_agenda_cons hag]
    exact (seqStep_of_abortDue hdue).trans (congrArg _ (takeAbort_eq _))
  · have hnot : ¬({ s with agenda := rest } : State).abortDue = true := by
      rw [State.abortDue_iff]
      rintro ⟨-, ho, -, hpath⟩
      obtain h | h := h
      · exact absurd (ho.symm.trans h) (by decide)
      · exact absurd (hpath.symm.trans ((onErrorPath_iff _).2 h)) (by decide)
    rw [step_of_agenda_cons hag]
    exact seqStep_of_not_abortDue hnot

end Sys2Proof.Proofs.Commands

/-! PROOFS. A request with no answer (spec/41_sequencer_and_ports.md R109): the micro-step of a port state that waits is the
state itself, and no host access and no engine's acceptance ends the wait. -/

namespace Sys2Proof.Proofs.UnansweredRequest

open Sys2Proof.Machine Sys2Proof.Proofs.Frames

/-- A request of a port state is outstanding and neither port holds a response: the sequencer waits (R109). -/
structure Waiting (s : State) : Prop where
  outstanding : s.outstanding = true
  port : s.st.port ≠ .none
  sRsp : s.sRsp = none
  bRsp : s.bRsp = none

/-- What a visit in progress turns on is the same in `s` and `t`: STATE, OUTSTANDING, the response slots and ERRCODE. -/
structure VisitKept (s t : State) : Prop where
  st : t.st = s.st
  outstanding : t.outstanding = s.outstanding
  sRsp : t.sRsp = s.sRsp
  bRsp : t.bRsp = s.bRsp
  errCode : t.errCode = s.errCode

theorem VisitKept.refl (s : State) : VisitKept s s := ⟨rfl, rfl, rfl, rfl, rfl⟩

theorem VisitKept.trans {s t u : State} (h : VisitKept s t) (h' : VisitKept t u) : VisitKept s u :=
  ⟨h'.st.trans h.st, h'.outstanding.trans h.outstanding, h'.sRsp.trans h.sRsp, h'.bRsp.trans h.bRsp,
    h'.errCode.trans h.errCode⟩

theorem Waiting.of_visitKept {s t : State} (hs : Waiting s) (h : VisitKept s t) : Waiting t :=
  ⟨h.outstanding.trans hs.outstanding, h.st ▸ hs.port, h.sRsp.trans hs.sRsp, h.bRsp.trans hs.bRsp⟩

/-- IDLE issues no request (R70), so a block that waits is busy. -/
theorem Waiting.st_ne_idle {s : State} (hs : Waiting s) : s.st ≠ .idle := fun h => hs.port (by rw [h]; rfl)

/-! ### The sequencer -/

/-- A port S visit with its request outstanding and no response yet has no step (R109). -/
theorem visitS_waiting (here : SeqState) (beats : List SBeat) (complete : Bytes64 → State → State) {s : State}
    (ho : s.outstanding = true) (hr : s.sRsp = none) : s.visitS here beats complete = s := by
  simp [State.visitS, ho, hr]

/-- A port B visit with its request outstanding and no response yet has no step (R109). -/
theorem visitB_waiting (here : SeqState) (q : BReq) (complete : Words8 → State → State) {s : State}
    (ho : s.outstanding = true) (hr : s.bRsp = none) : s.visitB here q complete = s := by
  simp [State.visitB, ho, hr]

/-- The micro-step of a port state that waits changes nothing. PH_UPD and SS_UPD bound their operands at the issue only. -/
theorem exec_port_waiting {st : SeqState} (hp : st.port ≠ .none) {s : State} (hs : Waiting s) :
    exec st.instr s = .next s := by
  have hS (here beats complete) :
      (.next (s.visitS here beats complete) : Host.Outcome State Fault Refusal) = .next s :=
    congrArg _ (visitS_waiting here beats complete hs.outstanding hs.sRsp)
  have hB (here q complete) :
      (.next (s.visitB here q complete) : Host.Outcome State Fault Refusal) = .next s :=
    congrArg _ (visitB_waiting here q complete hs.outstanding hs.bRsp)
  cases st with
  | idle | check | bhLdc | bhSer | acc | dist | finZero | errZero => exact absurd rfl hp
  | phUpd | ssUpd => exact (if_neg (by simp [hs.outstanding])).trans (hS ..)
  | phInit | phFin | ssInit | ssFin | rhInit | rhUpd | rhFin | finSclr | errSclr => exact hS ..
  | bhInit | bhExp | bhE0s | bhE0p | bhEnc | bhClr | errBclr => exact hB ..

/-- While the block waits no abort is due, and the sequencer's step changes nothing (R100, R109). -/
theorem seqStep_waiting {s : State} (hs : Waiting s) : seqStep s = .next s := by
  obtain ⟨hdue, -⟩ | ⟨-, h⟩ := seqStep_cases s
  · obtain ⟨-, ho, -, -⟩ := (State.abortDue_iff s).1 hdue
    exact absurd (hs.outstanding.symm.trans ho) (by decide)
  · exact h.trans (exec_port_waiting hs.port hs)

/-! ### The other agents -/

theorem takeEvent_visitKept (s : State) : VisitKept s s.takeEvent.2 := by
  obtain ⟨e, rest, -, h⟩ | ⟨-, h⟩ := s.takeEvent_cases <;> rw [h] <;> exact ⟨rfl, rfl, rfl, rfl, rfl⟩

theorem visitKept_of_hostFrame {s t : State} (h : HostFrame s t) : VisitKept s t := by
  unfold HostFrame at h
  constructor <;> rw [h]

theorem acceptS_visitKept (s : State) : VisitKept s s.acceptS := by
  obtain ⟨-, -, h⟩ | h := s.acceptS_cases <;> rw [h] <;> exact ⟨rfl, rfl, rfl, rfl, rfl⟩

theorem acceptB_visitKept (s : State) : VisitKept s s.acceptB := by
  obtain ⟨q, -, -, h⟩ | h := s.acceptB_cases <;> rw [h] <;> exact ⟨rfl, rfl, rfl, rfl, rfl⟩

/-! ### One step of any agent -/

/-- While the block waits, every event but an answer or the reset keeps the visit as it is (R109). -/
theorem runEvent_waiting {e : Event} {s t : State} (hs : Waiting s) (hrst : e ≠ .rst) (hS : ∀ err, e ≠ .answerS err)
    (hB : ∀ err, e ≠ .answerB err) (h : runEvent e s = .next t) : VisitKept s t := by
  cases e with
  | host a =>
    obtain ⟨u, hu, hf⟩ := hostStep_busy_frame a (busy_of_ne_idle hs.st_ne_idle)
    obtain rfl : u = t := Host.Outcome.next.inj (hu.symm.trans h)
    exact visitKept_of_hostFrame hf
  | seq =>
    obtain rfl : s = t := Host.Outcome.next.inj ((seqStep_waiting hs).symm.trans h)
    exact .refl s
  | acceptS => cases h; exact acceptS_visitKept s
  | acceptB => cases h; exact acceptB_visitKept s
  | answerS err => exact absurd rfl (hS err)
  | answerB err => exact absurd rfl (hB err)
  | rst => exact absurd rfl hrst

/-- Settles O41, from what each agent's step keeps of a visit that waits; taking the event off the agenda keeps it too. -/
theorem stuckWithoutAnAnswer : Obligations.StuckWithoutAnAnswer := by
  intro s t ho hp hsRsp hbRsp hstep hrst hS hB
  have hs : Waiting s := ⟨ho, hp, hsRsp, hbRsp⟩
  have htake := takeEvent_visitKept s
  have hkept := htake.trans (runEvent_waiting (hs.of_visitKept htake) hrst hS hB hstep)
  exact ⟨hkept.st, hkept.outstanding.trans ho, hkept.sRsp.trans hsRsp, hkept.bRsp.trans hbRsp, hkept.errCode⟩

end Sys2Proof.Proofs.UnansweredRequest

/-! PROOFS. The one way out of IDLE (spec/42_setup_and_password_digest.md R120): what each event does to STATE while the block
is idle, and which bus access carries START. -/

namespace Sys2Proof.Proofs.Idle

open Sys2Proof.Machine Sys2Proof.Proofs.Frames Sys2Proof.Proofs.HostReads Sys2Proof.Proofs.CommandWords
open Sys2Proof.Laws.WordFormat (Format.ofInstr)

/-! ### The access that carries a command -/

/-- An access that decodes gives the row of its direction and its offset (R78). -/
theorem decode_item {p : Params} {a : BusAccess} {i : Instr} (h : decode (BusAccess.item p a) = .ok i) :
    i = if a.write then decodeWrite (BitVec.ofNat 14 (a.addr - p.base)) a.wdata
      else .rd32 (BitVec.ofNat 14 (a.addr - p.base)) := by
  have hoff (dir : BitVec 1) (off : BitVec 14) : (dir ++ off).extractLsb' 0 14 = off := BitVec.extractLsb'_append_eq_right
  have hdir (dir : BitVec 1) (off : BitVec 14) : (dir ++ off).extractLsb' 14 1 = dir := BitVec.extractLsb'_append_eq_left
  simp only [BusAccess.item, decode, decodeBus, hoff, hdir] at h
  by_cases haligned : (BitVec.ofNat 14 (a.addr - p.base)).extractLsb' 0 2 = 0
  · cases hw : a.write with
    | false | true => simpa [haligned, hw] using h.symm
  · rw [if_pos haligned] at h
    cases h

/-- A write decodes to CMD's row at CMD's offset alone, with the word written (R78, R82). -/
theorem eq_cmd_of_decodeWrite {off : BitVec 14} {v w : Word} (h : decodeWrite off v = .wr32Cmd w) :
    off = 0x010 ∧ v = w := by
  unfold decodeWrite at h
  split_ifs at h with _ _ hoff
  all_goals cases h
  exact ⟨hoff, rfl⟩

/-- An access in the region that decodes to CMD's row is a write of that word to CMD's address (R40, R78). -/
theorem access_of_decode_cmd {p : Params} {a : BusAccess} {w : Word} (hr : BusAccess.inRegion p a = true)
    (hd : decode (BusAccess.item p a) = .ok (.wr32Cmd w)) :
    a.write = true ∧ a.addr = p.base + 0x010 ∧ a.wdata = w := by
  obtain ⟨hlo, hhi⟩ : p.base ≤ a.addr ∧ a.addr < p.base + 0x4000 := by simpa [BusAccess.inRegion] using hr
  have hrow := decode_item hd
  cases hw : a.write with
  | false => simp [hw] at hrow
  | true =>
    rw [hw, if_pos rfl] at hrow
    obtain ⟨hoff, hv⟩ := eq_cmd_of_decodeWrite hrow.symm
    refine ⟨rfl, ?_, hv⟩
    bv_omega

/-! ### The host in IDLE -/

/-- While idle no command word but START's writes STATE, and START writes CHECK (R87 to R90). -/
theorem exec_wr32Cmd_idle_st {w : Word} {s t : State} (hi : s.st = .idle) (h : exec (.wr32Cmd w) s = .next t) :
    t.st = .idle ∨ t.st = .check ∧ w = 1 := by
  have hidle : ¬s.ack.busy = true := not_busy_of_idle hi
  rw [exec_wr32Cmd, decodeCmd_eq] at h
  split_ifs at h with h0 h1 h2 h3
  · cases h; exact .inl hi
  · obtain rfl := Host.Outcome.next.inj ((if_neg hidle).symm.trans h)
    exact .inr ⟨rfl, h1⟩
  · obtain rfl := Host.Outcome.next.inj ((if_neg hidle).symm.trans h)
    exact .inl hi
  · obtain rfl := Host.Outcome.next.inj ((if_neg hidle).symm.trans h)
    exact .inl hi
  · cases h; exact .inl hi

/-- While idle a bus operation keeps STATE, unless it writes START to CMD (R81 to R86, R91). -/
theorem exec_hostbus_idle_st {i : Instr} (hf : Format.ofInstr i = .hostbus15) {s t : State} (hi : s.st = .idle)
    (h : exec i s = .next t) : t.st = .idle ∨ t.st = .check ∧ i = .wr32Cmd 1 := by
  cases i with
  | rd32 | wr32 | wr32Ctrl | wr32Status => cases h; exact .inl hi
  | wr32Cmd w =>
    obtain hst | ⟨hst, rfl⟩ := exec_wr32Cmd_idle_st hi h
    · exact .inl hst
    · exact .inr ⟨hst, rfl⟩
  | wr32PwLen | wr32SaltLen | wr32OutLen | wr32Rounds | wr32Pwbuf | wr32Saltbuf =>
    obtain rfl := Host.Outcome.next.inj ((if_neg (not_busy_of_idle hi)).symm.trans h)
    exact .inl hi
  | _ => cases hf

/-- The access writes the word of START to CMD (R62, R82). -/
def WritesStart (p : Params) (a : BusAccess) : Prop :=
  a.write = true ∧ a.addr = p.base + 0x010 ∧ a.wdata = 0x00000001

/-- No host access leaves IDLE but a write of START to CMD (R43, R88). -/
theorem hostStep_idle_st {a : BusAccess} {s t : State} (hi : s.st = .idle) (h : hostStep a s = .next t) :
    t.st = .idle ∨ t.st = .check ∧ WritesStart s.params a := by
  obtain hs | hs | ⟨i, hr, -, hd, hs⟩ := hostStep_cases a s <;> rw [hs] at h
  · cases h; exact .inl hi
  · cases h; exact .inl hi
  · obtain hst | ⟨hst, rfl⟩ := exec_hostbus_idle_st (decode_format hd) hi h
    · exact .inl hst
    · exact .inr ⟨hst, access_of_decode_cmd hr hd⟩

/-! ### The other agents, and one step of any -/

/-- While idle no abort is due, and the sequencer's step changes nothing (R100, R120). -/
theorem seqStep_idle {s : State} (hi : s.st = .idle) : seqStep s = .next s := by
  obtain ⟨hdue, -⟩ | ⟨-, h⟩ := seqStep_cases s
  · obtain ⟨-, -, hne, -⟩ := (State.abortDue_iff s).1 hdue
    exact absurd hi hne
  · rw [h, hi]
    rfl

theorem st_of_engineFrame {s t : State} (h : EngineFrame s t) : t.st = s.st := by
  unfold EngineFrame at h
  rw [h]

/-- No event leaves IDLE but a host's write of START to CMD (R120). -/
theorem runEvent_idle_st {e : Event} {s t : State} (hi : s.st = .idle) (h : runEvent e s = .next t) :
    t.st = .idle ∨ t.st = .check ∧ ∃ a, e = .host a ∧ WritesStart s.params a := by
  cases e with
  | host a =>
    obtain hst | ⟨hst, ha⟩ := hostStep_idle_st hi h
    · exact .inl hst
    · exact .inr ⟨hst, a, rfl, ha⟩
  | seq =>
    obtain rfl : s = t := Host.Outcome.next.inj ((seqStep_idle hi).symm.trans h)
    exact .inl hi
  | acceptS => cases h; exact .inl ((st_of_engineFrame (acceptS_frame s)).trans hi)
  | answerS err => exact .inl ((st_of_engineFrame (answerStepS_frame h)).trans hi)
  | acceptB => cases h; exact .inl ((st_of_engineFrame (acceptB_frame s)).trans hi)
  | answerB err => exact .inl ((st_of_engineFrame (answerStepB_frame h)).trans hi)
  | rst => cases h; exact .inl rfl

theorem takeEvent_params (s : State) : s.takeEvent.2.params = s.params := by
  obtain ⟨e, rest, -, h⟩ | ⟨-, h⟩ := s.takeEvent_cases <;> rw [h]

/-- Settles O21, from what each event does in IDLE; taking the event off the agenda keeps STATE and the parameters. -/
theorem idleIsLeftOnlyByStart : Obligations.IdleIsLeftOnlyByStart := by
  refine ⟨fun s => rfl, fun s t hi hstep => ?_⟩
  have hrun := runEvent_idle_st ((takeEvent_st s).trans hi) hstep
  rw [takeEvent_params] at hrun
  exact hrun

end Sys2Proof.Proofs.Idle

/-! PROOFS. CHECK (spec/42_setup_and_password_digest.md R121 to R125): the conditions it records in INFO, and the geometry it
sets with legal parameters. -/

namespace Sys2Proof.Proofs.Check

open Sys2Proof.Machine Sys2Proof.Proofs.HostReads
open Sys2Proof.Safety (ParamsLegal)

/-! ### The parameters CHECK accepts -/

theorem getLsbD_infoAt (b : Bool) (k i : Nat) : (infoAt b k).getLsbD i = (b && decide (i < 8) && decide (k = i)) := by
  cases b
  · simp [infoAt]
  · change (BitVec.ofNat 8 (2 ^ k)).getLsbD i = _
    rw [BitVec.getLsbD_ofNat, Nat.testBit_two_pow, Bool.true_and]

theorem infoAt_eq_zero_iff (b : Bool) {k : Nat} (hk : k < 8) : infoAt b k = 0#8 ↔ b = false := by
  constructor
  · intro h
    have hbit := getLsbD_infoAt b k k
    simpa [h, hk] using hbit.symm
  · rintro rfl
    rfl

/-- INFO, one bit for each condition of CHECK (R121). -/
theorem checkInfo_fields (s : State) :
    s.checkInfo.getLsbD 0 = decide (s.rounds = 0) ∧ s.checkInfo.getLsbD 1 = decide (s.pwLen = 0) ∧
      s.checkInfo.getLsbD 2 = decide (s.saltLen = 0) ∧ s.checkInfo.getLsbD 3 = decide (s.outLen = 0) ∧
      s.checkInfo.getLsbD 4 = decide (1024 < s.outLen.toNat) ∧
      s.checkInfo.getLsbD 5 = decide (s.params.pwMax < s.pwLen.toNat) ∧
      s.checkInfo.getLsbD 6 = decide (s.params.saltMax < s.saltLen.toNat) ∧ s.checkInfo.getLsbD 7 = false := by
  simp only [State.checkInfo, BitVec.getLsbD_or, getLsbD_infoAt, beq_eq_decide]
  simp

/-- No condition fails exactly where the parameters are legal (R121, R188). -/
theorem checkInfo_eq_zero_iff (s : State) : s.checkInfo = 0 ↔ ParamsLegal s := by
  simp (disch := decide) only [State.checkInfo, BitVec.ofNat_eq_ofNat, BitVec.or_eq_zero_iff, infoAt_eq_zero_iff]
  simp only [beq_eq_false_iff_ne, decide_eq_false_iff_not, not_lt, ParamsLegal, Ne, BitVec.toNat_eq, BitVec.toNat_ofNat]
  omega

theorem errCodeWord_invalidParameter (info : BitVec 8) :
    errCodeWord .invalidParameter info .check =
      fieldAt (0x01 : BitVec 8) 0 ||| fieldAt info 8 ||| fieldAt (0x0001 : BitVec 16) 16 := by
  simp [errCodeWord, fieldAt, ErrKind.code, SeqState.code]

/-- The word INVALID_PARAMETER records: CODE 1, the given INFO, FSTATE CHECK, the reserved bits 0 (R66, R187, R188). -/
theorem errCodeWord_invalidParameter_fields (info : BitVec 8) :
    (errCodeWord .invalidParameter info .check).extractLsb' 0 8 = 0x01 ∧
      (errCodeWord .invalidParameter info .check).extractLsb' 8 8 = info ∧
      (errCodeWord .invalidParameter info .check).extractLsb' 16 16 = 0x0001 := by
  simp (disch := omega) [errCodeWord_invalidParameter, BitVec.extractLsb'_or, extractLsb'_fieldAt_same,
    extractLsb'_fieldAt_disjoint]

/-- Each of CHECK's seven conditions makes the parameters illegal (R121, R188). -/
theorem not_paramsLegal {s : State}
    (h : s.rounds = 0 ∨ s.pwLen = 0 ∨ s.saltLen = 0 ∨ s.outLen = 0 ∨ 1024 < s.outLen.toNat ∨
      s.params.pwMax < s.pwLen.toNat ∨ s.params.saltMax < s.saltLen.toNat) : ¬ParamsLegal s := by
  unfold ParamsLegal
  bv_omega

/-- CHECK with an illegal parameter is the error entry, with all failed conditions as INFO (R121, R186). -/
theorem exec_stateCheck_of_not_paramsLegal {s : State} (h : ¬ParamsLegal s) :
    exec .stateCheck s =
      .next { s with errCode := errCodeWord .invalidParameter s.checkInfo .check, st := .errZero } :=
  if_pos (mt (checkInfo_eq_zero_iff s).1 h)

/-- Settles O22: CHECK is then the error entry, and ERRCODE's INFO field holds one bit for each condition. -/
theorem checkReportsEveryFailedCondition : Obligations.CheckReportsEveryFailedCondition := by
  intro s h
  obtain ⟨hcode, hinfo, hfstate⟩ := errCodeWord_invalidParameter_fields s.checkInfo
  obtain ⟨hrounds, hpw, hsalt, hout, hoverOut, hoverPw, hoverSalt, hreserved⟩ := checkInfo_fields s
  have hbit (i : Nat) (hi : i < 8 := by decide) :
      (errCodeWord .invalidParameter s.checkInfo .check).getLsbD (8 + i) = s.checkInfo.getLsbD i := by
    conv_rhs => rw [← hinfo, BitVec.getLsbD_extractLsb']
    simp [hi]
  exact ⟨errCodeWord .invalidParameter s.checkInfo .check, exec_stateCheck_of_not_paramsLegal (not_paramsLegal h), hcode,
    (hbit 0).trans hrounds, (hbit 1).trans hpw, (hbit 2).trans hsalt, (hbit 3).trans hout, (hbit 4).trans hoverOut,
    (hbit 5).trans hoverPw, (hbit 6).trans hoverSalt, (hbit 7).trans hreserved, hfstate⟩

/-! ### The geometry -/

/-- CHECK with legal parameters sets the geometry and the counters (R121). -/
theorem exec_stateCheck_of_paramsLegal {s : State} (h : ParamsLegal s) :
    exec .stateCheck s =
      .next { s with
        stride := strideOf s.outLen, amt := amtOf s.outLen, remain := s.outLen.setWidth 11, blkCnt := 1, rndCnt := 1
        iter := 0, st := .phInit } :=
  if_neg (not_not.2 ((checkInfo_eq_zero_iff s).2 h))

/-- STRIDE is the ceiling of n / 32, which fits its six bits (R124). -/
theorem toNat_strideOf {n : Word} (h : n.toNat ≤ 1024) : (strideOf n).toNat = (n.toNat + 31) / 32 := by
  rw [strideOf, BitVec.toNat_setWidth, BitVec.toNat_ushiftRight, Nat.shiftRight_eq_div_pow, BitVec.toNat_add]
  change (n.toNat + 31) % 2 ^ 32 / 2 ^ 5 % 2 ^ 6 = _
  omega

/-- The ceiling of n / k is the least a with n ≤ a * k. -/
theorem add_pred_div_le_iff {n k a : Nat} (hk : 0 < k) : (n + k - 1) / k ≤ a ↔ n ≤ a * k := by
  rw [← Nat.ceilDiv_eq_add_pred_div, ceilDiv_le_iff_le_mul hk, Nat.mul_comm]

/-- AMT is the ceiling of n / STRIDE, which fits its six bits (R125). -/
theorem toNat_amtOf {n : Word} (hlo : 1 ≤ n.toNat) (hhi : n.toNat ≤ 1024) :
    (amtOf n).toNat = (n.toNat + (strideOf n).toNat - 1) / (strideOf n).toNat := by
  have hk := toNat_strideOf hhi
  have hfits : (n.toNat + (strideOf n).toNat - 1) / (strideOf n).toNat ≤ 32 :=
    (add_pred_div_le_iff (by omega)).2 (by omega)
  have hwide : ((strideOf n).setWidth 32).toNat = (strideOf n).toNat := BitVec.toNat_setWidth_of_le (by decide)
  have hsum : (n + (strideOf n).setWidth 32 - 1).toNat = n.toNat + (strideOf n).toNat - 1 := by bv_omega
  rw [amtOf, BitVec.toNat_setWidth, BitVec.toNat_udiv, hsum, hwide]
  exact Nat.mod_eq_of_lt (hfits.trans_lt (by decide))

/-- Settles O23: STRIDE and AMT are the two ceilings, whose bounds are those of a least multiple. -/
theorem checkSetsTheGeometry : Obligations.CheckSetsTheGeometry := by
  intro s h
  have hexec := exec_stateCheck_of_paramsLegal h
  obtain ⟨-, -, -, -, -, hlo, hhi⟩ := h
  have hk := toNat_strideOf hhi
  have hkpos : 0 < (strideOf s.outLen).toNat := by omega
  have hleast (a : Nat) : (amtOf s.outLen).toNat ≤ a ↔ s.outLen.toNat ≤ a * (strideOf s.outLen).toNat := by
    rw [toNat_amtOf hlo hhi, add_pred_div_le_iff hkpos]
  have hapos : 1 ≤ (amtOf s.outLen).toNat := by
    have := hleast 0
    omega
  refine ⟨strideOf s.outLen, amtOf s.outLen, ?_, by omega, by omega, by omega, by omega, by omega, hapos,
    (hleast 32).2 (by omega), (hleast _).1 le_rfl, lt_of_not_ge fun hle => ?_⟩
  · rw [hexec, BitVec.ofNat_toNat]
  · have := (hleast _).2 hle
    omega

end Sys2Proof.Proofs.Check

/-! PROOFS. The visit of a port S state (spec/41_sequencer_and_ports.md R100 to R102, R109, spec/60_exceptions.md R189), proved
once for every state that is off the error path, and the three states of the password digest
(spec/42_setup_and_password_digest.md R126 to R128). -/

namespace Sys2Proof.Proofs.PortSVisits

open Sys2Proof.Machine Sys2Proof.Proofs.UnansweredRequest
open Sys2Proof.Safety (VisitsPortS)

/-! ### The steps of a visit -/

section
variable {here : SeqState} {beats : List SBeat} {complete : Bytes64 → State → State} {s : State}

/-- With nothing outstanding and an empty slot, the visit issues its request (R101). -/
theorem visitS_issue (ho : s.outstanding = false) (hslot : s.sReq = []) :
    s.visitS here beats complete = { s with sReq := beats, outstanding := true } := by
  simp [State.visitS, State.issueS, ho, hslot]

/-- With nothing outstanding and a full slot, the issue step is not enabled (R101). -/
theorem visitS_full (ho : s.outstanding = false) (hslot : s.sReq ≠ []) : s.visitS here beats complete = s := by
  simp [State.visitS, State.issueS, ho, hslot]

/-- An answer without an error completes the visit (R102). -/
theorem visitS_complete {d : Bytes64} (ho : s.outstanding = true) (hr : s.sRsp = some { err := false, data := d }) :
    s.visitS here beats complete = complete d { s with sRsp := none, outstanding := false } := by
  simp [State.visitS, ho, hr]

/-- The word SHA_FAULT records: CODE 2 and the state that took the answer (R66, R187, R189). -/
theorem errCodeWord_shaFault (f : SeqState) :
    errCodeWord .shaFault 0 f = 0x00000002 ||| (f.code.setWidth 32 <<< 16) := by
  simp [errCodeWord, ErrKind.code]

/-- Off the error path an error answer is SHA_FAULT (R189). -/
theorem visitS_fault {d : Bytes64} (hpath : SeqState.onErrorPath here = false) (ho : s.outstanding = true)
    (hr : s.sRsp = some { err := true, data := d }) :
    s.visitS here beats complete =
      { s with
        sRsp := none, outstanding := false, st := .errSclr
        errCode := 0x00000002 ||| (here.code.setWidth 32 <<< 16) } := by
  rw [← errCodeWord_shaFault]
  simp [State.visitS, ho, hr, hpath, State.raiseFault]

end

/-- A state off the error path whose micro-step is a port S visit, at the issue only where its operand exists, does what the
rules of a visit say. -/
theorem visitsPortS_of_exec {st : SeqState} {ok : State → Prop} {req : State → Instr} {after : Bytes64 → State → State}
    {beats : State → List SBeat} (hpath : SeqState.onErrorPath st = false)
    (hreq : ∀ s, encode (req s) = .portS (beats s))
    (hexec : ∀ s, (s.outstanding = false → ok s) → exec st.instr s = .next (s.visitS st (beats s) after)) :
    VisitsPortS st ok req after := by
  have outstanding_ok {s : State} (ho : s.outstanding = true) : s.outstanding = false → ok s := by simp [ho]
  refine fun s => ⟨fun ho hslot hok => ⟨beats s, hreq s, ?issue⟩, fun ho hslot hok => ?full, fun d ho hr => ?complete,
    fun d ho hr => ?fault, fun ho hr => ?wait⟩
  case issue => rw [hexec s fun _ => hok, visitS_issue ho hslot]
  case full => rw [hexec s fun _ => hok, visitS_full ho hslot]
  case complete => rw [hexec s (outstanding_ok ho), visitS_complete ho hr]
  case fault => rw [hexec s (outstanding_ok ho), visitS_fault hpath ho hr]
  case wait => rw [hexec s (outstanding_ok ho), visitS_waiting _ _ _ ho hr]

/-! ### The password digest -/

/-- PH_UPD is a port S visit, bounding PW_LEN at the issue only (R127). -/
theorem exec_statePhUpd {s : State} (hok : s.outstanding = false → s.pwLen.toNat ≤ s.params.pwMax) :
    exec .statePhUpd s =
      .next (s.visitS .phUpd (updateBeats s.password) fun _ t => { t with st := .phFin }) := by
  refine if_neg ?_
  cases ho : s.outstanding with
  | true => simp
  | false => simp [hok ho]

/-- Settles O24: each of the three micro-steps is a port S visit with its own request and completion. -/
theorem passwordDigestStates : Obligations.PasswordDigestStates :=
  ⟨visitsPortS_of_exec rfl (fun _ => rfl) fun _ _ => rfl,
    visitsPortS_of_exec rfl (fun _ => rfl) fun _ => exec_statePhUpd,
    visitsPortS_of_exec rfl (fun _ => rfl) fun _ _ => rfl⟩

end Sys2Proof.Proofs.PortSVisits

/-! PROOFS. The visit of a port B state (spec/41_sequencer_and_ports.md R100, R103, R104, R109, spec/60_exceptions.md R190),
and the round-mixing states BH_INIT to BH_CLR (spec/43_bcrypt_hash.md R141 to R148): six of them are port B visits, BH_LDC
loads the constant and BH_SER stores the result. -/

namespace Sys2Proof.Proofs.BcryptHash

open Sys2Proof.Machine Sys2Proof.Proofs.UnansweredRequest
open Sys2Proof.Safety (VisitsPortB constWords)

/-! ### The steps of a port B visit -/

section
variable {here : SeqState} {q : BReq} {complete : Words8 → State → State} {s : State}

/-- With nothing outstanding and an empty slot, the visit issues its request (R103). -/
theorem visitB_issue (ho : s.outstanding = false) (hslot : s.bReq = none) :
    s.visitB here q complete = { s with bReq := some q, outstanding := true } := by
  simp [State.visitB, State.issueB, ho, hslot]

/-- With nothing outstanding and a full slot, the issue step is not enabled (R103). -/
theorem visitB_full (ho : s.outstanding = false) (hslot : s.bReq ≠ none) : s.visitB here q complete = s := by
  simp [State.visitB, State.issueB, ho, hslot]

/-- An answer completes the visit if it has no error, and on the error path in any case (R104, R194). -/
theorem visitB_complete {r : BRsp} (ho : s.outstanding = true) (hr : s.bRsp = some r)
    (hok : r.err = false ∨ SeqState.onErrorPath here = true) :
    s.visitB here q complete = complete r.w { s with bRsp := none, outstanding := false } := by
  obtain he | hpath := hok
  · simp [State.visitB, ho, hr, he]
  · simp [State.visitB, ho, hr, hpath]

/-- The word BF_FAULT records: CODE 3 and the state that took the answer (R66, R187, R190). -/
theorem errCodeWord_bfFault (f : SeqState) : errCodeWord .bfFault 0 f = 0x00000003 ||| (f.code.setWidth 32 <<< 16) := by
  simp [errCodeWord, ErrKind.code]

/-- Off the error path an error answer is BF_FAULT (R190). -/
theorem visitB_fault {w : Words8} (hpath : SeqState.onErrorPath here = false) (ho : s.outstanding = true)
    (hr : s.bRsp = some { err := true, w := w }) :
    s.visitB here q complete =
      { s with
        bRsp := none, outstanding := false, st := .errSclr
        errCode := 0x00000003 ||| (here.code.setWidth 32 <<< 16) } := by
  rw [← errCodeWord_bfFault]
  simp [State.visitB, ho, hr, hpath, State.raiseFault]

end

/-- A state off the error path whose micro-step is a port B visit does what the rules of a visit say. -/
theorem visitsPortB_of_exec {st : SeqState} {req : State → Instr} {after : Words8 → State → State} {q : State → BReq}
    (hpath : SeqState.onErrorPath st = false) (hreq : ∀ s, encode (req s) = .portB (q s))
    (hexec : ∀ s, exec st.instr s = .next (s.visitB st (q s) after)) : VisitsPortB st req after := by
  intro s
  rw [hexec s]
  exact ⟨fun ho hslot => ⟨q s, hreq s, congrArg _ (visitB_issue ho hslot)⟩,
    fun ho hslot => congrArg _ (visitB_full ho hslot),
    fun w ho hr => congrArg _ (visitB_complete ho hr (.inl rfl)),
    fun w ho hr => congrArg _ (visitB_fault hpath ho hr),
    fun ho hr => congrArg _ (visitB_waiting _ _ _ ho hr)⟩

/-- Settles O25: each of the four micro-steps is a port B visit with its own request and completion. -/
theorem expansionStates : Obligations.ExpansionStates :=
  ⟨visitsPortB_of_exec rfl (fun _ => rfl) fun _ => rfl,
    visitsPortB_of_exec rfl (fun _ => rfl) fun _ => rfl,
    visitsPortB_of_exec rfl (fun _ => rfl) fun _ => rfl,
    visitsPortB_of_exec rfl (fun _ => rfl) fun _ => rfl⟩

/-- Settles O27: both micro-steps are port B visits, BH_ENC's request carrying the CW of the issue. -/
theorem encryptionAndClearStates : Obligations.EncryptionAndClearStates :=
  ⟨visitsPortB_of_exec rfl (fun _ => rfl) fun _ => rfl,
    visitsPortB_of_exec rfl (fun _ => rfl) fun _ => rfl⟩

/-! ### The working words -/

/-- Byte b of a word as R147 writes it, a shift and a mask. -/
theorem byteOf_eq_shift (v : Word) (b : Nat) : byteOf v b = ((v >>> (8 * b)) &&& 0xFF).setWidth 8 := by
  have hmask : (0xFF : Word).setWidth 8 = BitVec.allOnes 8 := rfl
  rw [BitVec.setWidth_and, hmask, BitVec.and_allOnes]
  rfl

/-- The serialised words hold byte b of word j at 4j + b (R147). -/
theorem getElem_serialise (w : Words8) {j b : Nat} (hj : j < 8) (hb : b < 4) :
    (serialise w)[4 * j + b] = byteOf w[j] b := by
  have hword : (4 * j + b) / 4 = j := by omega
  have hbyte : (4 * j + b) % 4 = b := by omega
  simp only [serialise, Vector.getElem_ofFn, hword, hbyte]

/-- Settles O28: PREV takes the serialised CW, whose bytes are the shifted and masked words. -/
theorem serialisesLittleEndian : Obligations.SerialisesLittleEndian := fun s =>
  ⟨serialise s.cw, rfl, fun j b => (getElem_serialise s.cw j.isLt b.isLt).trans (byteOf_eq_shift _ _)⟩

/-- The constant's bytes, loaded most significant byte first, are the eight words R145 lists. -/
theorem constW_eq_constWords : constW = constWords := by decide

/-- Settles O26: BH_LDC loads the constant, whose words are those R145 lists. -/
theorem loadsTheConstant : Obligations.LoadsTheConstant := by
  intro s
  change Host.Outcome.next { s with cw := constW, st := .bhEnc } = _
  rw [constW_eq_constWords, constWords]

end Sys2Proof.Proofs.BcryptHash

/-! PROOFS. The driver (spec/44_pbkdf_driver.md R160 to R167, R170, R171): seven of its states are port S visits, ACC folds
PREV into BLOCK, DIST scatters BLOCK over OUTBUF, and FIN_ZERO wipes all but OUTBUF. -/

namespace Sys2Proof.Proofs.Driver

open Sys2Proof.Machine Sys2Proof.Proofs.PortSVisits

/-! ### The port S visits -/

/-- SS_UPD is a port S visit, bounding SALT_LEN at the issue only (R161). -/
theorem exec_stateSsUpd {s : State} (hok : s.outstanding = false → s.saltLen.toNat ≤ s.params.saltMax) :
    exec .stateSsUpd s =
      .next (s.visitS .ssUpd (updateBeats s.blockSalt) fun _ t => { t with st := .ssFin }) := by
  refine if_neg ?_
  cases ho : s.outstanding with
  | true => simp
  | false => simp [hok ho]

/-- Settles O29: each of the three micro-steps is a port S visit with its own request and completion. -/
theorem saltDigestStates : Obligations.SaltDigestStates :=
  ⟨visitsPortS_of_exec rfl (fun _ => rfl) fun _ _ => rfl,
    visitsPortS_of_exec rfl (fun _ => rfl) fun _ => exec_stateSsUpd,
    visitsPortS_of_exec rfl (fun _ => rfl) fun _ _ => rfl⟩

/-- Settles O31: each of the three micro-steps is a port S visit, RH_UPD's request carrying the PREV of the issue. -/
theorem rehashStates : Obligations.RehashStates :=
  ⟨visitsPortS_of_exec rfl (fun _ => rfl) fun _ _ => rfl,
    visitsPortS_of_exec rfl (fun _ => rfl) fun _ _ => rfl,
    visitsPortS_of_exec rfl (fun _ => rfl) fun _ _ => rfl⟩

/-- Settles O34: FIN_SCLR is a port S visit. -/
theorem finishClearsTheDigestContext : Obligations.FinishClearsTheDigestContext :=
  visitsPortS_of_exec rfl (fun _ => rfl) fun _ _ => rfl

/-! ### ACC -/

/-- BLOCK after ACC (R163). -/
def foldedBlock (s : State) : Bytes32 := if s.rndCnt = 1 then s.prev else xor32 s.block s.prev

/-- Before the last round ACC counts RNDCNT up and goes on with RH_INIT (R163). -/
theorem exec_stateAcc_of_lt {s : State} (h : s.rndCnt.toNat < s.rounds.toNat) :
    exec .stateAcc s = .next { s with block := foldedBlock s, rndCnt := s.rndCnt + 1, st := .rhInit } :=
  if_pos (BitVec.lt_def.2 h)

/-- In the last round ACC goes to DIST (R163). -/
theorem exec_stateAcc_of_le {s : State} (h : s.rounds.toNat ≤ s.rndCnt.toNat) :
    exec .stateAcc s = .next { s with block := foldedBlock s, st := .dist } :=
  if_neg (BitVec.not_lt.2 (BitVec.le_def.2 h))

theorem getElem_xor32 (a b : Bytes32) (i : Fin 32) : (xor32 a b)[i] = a[i] ^^^ b[i] := by
  simp [xor32]

/-- Settles O30: the folded block and the comparison of RNDCNT with ROUNDS. -/
theorem accumulatesTheRounds : Obligations.AccumulatesTheRounds := by
  refine fun s => ⟨foldedBlock s, fun hfirst => if_pos hfirst, fun hlater i => ?_, exec_stateAcc_of_lt, exec_stateAcc_of_le⟩
  rw [foldedBlock, if_neg hlater, getElem_xor32]

/-! ### DIST -/

/-- Positions rise with the index, so DIST, which stops at the first position at or past n, places as many bytes as there are
indices whose position is below n (R167). -/
theorem placed_eq_countP (stride c n k i : Nat) :
    placed stride c n k i = (List.range k).countP fun j => decide ((i + j) * stride + c < n) := by
  induction k generalizing i with
  | zero => rfl
  | succ k ih =>
    rw [placed, List.range_succ_eq_map, List.countP_cons, List.countP_map]
    split
    · next hpast =>
      have hlater (j : Nat) : n ≤ (i + j) * stride + c :=
        hpast.trans (Nat.add_le_add_right (Nat.mul_le_mul_right _ (Nat.le_add_right i j)) c)
      rw [List.countP_eq_zero.2 fun j _ => by simpa using hlater (j + 1)]
      simpa using hpast
    · next hbelow =>
      have hfirst : i * stride + c < n := Nat.lt_of_not_le hbelow
      simp [ih, hfirst, Function.comp_def, Nat.add_assoc, Nat.add_comm 1]

/-- Scattered bytes read back, each at its own offset. -/
theorem memRead_memScatter_at {m : Memory} (hm : Memory.wf m) {stride : Nat} (hs : 1 ≤ stride) (a : Nat) {bs : List Byte}
    {i : Nat} (hi : i < bs.length) : memRead (memScatter m a stride bs) (a + i * stride) = bs[i] := by
  induction bs generalizing m a i with
  | nil => cases hi
  | cons b bs ih =>
    rw [memScatter]
    cases i with
    | zero =>
      rw [Nat.zero_mul, Nat.add_zero, memRead_memScatter_below _ _ _ (by omega), memRead_memWrite_same hm]
      rfl
    | succ i =>
      have hoff : a + (i + 1) * stride = a + stride + i * stride := by rw [Nat.succ_mul]; omega
      rw [hoff, ih (memWrite_wf hm a b) _ (Nat.lt_of_succ_lt_succ hi)]
      rfl

/-- The position in OUTBUF of byte i of the block (R167). -/
def distPos (s : State) (i : Nat) : Nat := i * s.stride.toNat + (s.blkCnt.toNat - 1)

/-- The memory after DIST (R167). -/
def distMem (s : State) : Memory :=
  memScatter s.mem (outBase + (s.blkCnt - 1).toNat) s.stride.toNat (s.block.toList.take s.distCount)

theorem toNat_blkCnt_pred {s : State} (hb : 1 ≤ s.blkCnt.toNat) : (s.blkCnt - 1).toNat = s.blkCnt.toNat - 1 :=
  BitVec.toNat_sub_of_le (BitVec.le_def.2 hb)

/-- DIST places as many bytes as there are indices below min(AMT, REMAIN) whose position is below OUT_LEN (R167). -/
theorem distCount_eq_countP {s : State} (hb : 1 ≤ s.blkCnt.toNat) :
    s.distCount =
      (List.range (min s.amt.toNat s.remain.toNat)).countP fun i => decide (distPos s i < s.outLen.toNat) := by
  rw [State.distCount, placed_eq_countP, toNat_blkCnt_pred hb]
  simp only [Nat.zero_add]
  rfl

theorem distCount_le {s : State} (hb : 1 ≤ s.blkCnt.toNat) : s.distCount ≤ min s.amt.toNat s.remain.toNat := by
  rw [distCount_eq_countP hb]
  exact List.countP_le_length.trans_eq List.length_range

theorem scatter_offset_eq {s : State} (hb : 1 ≤ s.blkCnt.toNat) (i : Nat) :
    outBase + (s.blkCnt - 1).toNat + i * s.stride.toNat = 0x3000 + distPos s i := by
  rw [toNat_blkCnt_pred hb, distPos, outBase]
  omega

/-- Each byte that DIST places is at its position (R167). -/
theorem memRead_distMem_at {s : State} (hm : Memory.wf s.mem) (hs : 1 ≤ s.stride.toNat) (hb : 1 ≤ s.blkCnt.toNat) {i : Nat}
    (h32 : i < 32) (hi : i < s.distCount) : memRead (distMem s) (0x3000 + distPos s i) = s.block[i] := by
  rw [← scatter_offset_eq hb, distMem, memRead_memScatter_at hm hs _ (by simp; omega)]
  simp

/-- DIST leaves every other byte (R167). -/
theorem memRead_distMem_other {s : State} (hb : 1 ≤ s.blkCnt.toNat) {x : Nat}
    (hx : ∀ i < s.distCount, x ≠ 0x3000 + distPos s i) : memRead (distMem s) x = memRead s.mem x := by
  refine memRead_memScatter_other _ _ _ fun i hi => ?_
  rw [scatter_offset_eq hb]
  exact hx i (Nat.lt_of_lt_of_le hi (List.length_take_le _ _))

section
variable {s : State} (ha : s.amt.toNat ≤ 32) (ho : s.outLen.toNat ≤ 1024)
include ha ho

/-- In the ranges of a run DIST does not stop (R22, R167). -/
theorem exec_stateDist_eq_ite :
    exec .stateDist s =
      if s.remain.toNat - s.distCount = 0 then
        .next { s with mem := distMem s, remain := BitVec.ofNat 11 (s.remain.toNat - s.distCount), st := .finSclr }
      else
        .next { s with
          mem := distMem s, remain := BitVec.ofNat 11 (s.remain.toNat - s.distCount), blkCnt := s.blkCnt + 1, rndCnt := 1
          st := .ssInit } :=
  if_neg (by unfold outBytes; omega)

/-- Where DIST places all that remained, FIN_SCLR follows (R167). -/
theorem exec_stateDist_last (hw : s.remain.toNat = s.distCount) :
    exec .stateDist s = .next { s with mem := distMem s, remain := 0, st := .finSclr } := by
  rw [exec_stateDist_eq_ite ha ho, hw, Nat.sub_self, if_pos rfl]
  rfl

/-- Where bytes remain, the next block follows (R167). -/
theorem exec_stateDist_next (hb : 1 ≤ s.blkCnt.toNat) (hw : s.remain.toNat ≠ s.distCount) :
    exec .stateDist s =
      .next { s with
        mem := distMem s, remain := BitVec.ofNat 11 (s.remain.toNat - s.distCount), blkCnt := s.blkCnt + 1, rndCnt := 1
        st := .ssInit } := by
  have hle := distCount_le hb
  rw [exec_stateDist_eq_ite ha ho, if_neg (by omega)]

end

/-- Settles O32: the count of placed bytes is the count of indices whose position is in range; then what each byte of memory
reads, and the two next states. -/
theorem distributesTheBlock : Obligations.DistributesTheBlock := by
  intro s hm ha ho hs hb pos w
  have hw : w = s.distCount := (distCount_eq_countP hb).symm
  rw [hw]
  exact ⟨distMem s, fun i h32 hi => memRead_distMem_at hm hs hb h32 hi, fun x hx => memRead_distMem_other hb hx,
    exec_stateDist_last ha ho, exec_stateDist_next ha ho hb⟩

/-! ### FIN_ZERO -/

/-- After the inputs are zeroed each byte of the two input buffers reads 0 and every other byte as before (R171). -/
theorem memRead_zeroInputs (s : State) (x : Nat) :
    memRead s.zeroInputs.mem x =
      if (0x2000 ≤ x ∧ x < 0x2000 + s.params.saltMax) ∨ (0x1000 ≤ x ∧ x < 0x1000 + s.params.pwMax) then 0
      else memRead s.mem x := by
  rw [State.zeroInputs_mem, memRead_memZero, memRead_memZero, ite_or]
  rfl

/-- Settles O35: the registers are those of the zeroisation, and the memory changes in the two input buffers alone, which lie
in their windows. -/
theorem finishZeroesEverySecret : Obligations.FinishZeroesEverySecret := by
  intro s
  have hpw : s.params.pwMax ≤ 0x1000 := s.params.pwMaxLess1.isLt
  have hsalt : s.params.saltMax ≤ 0x1000 := s.params.saltMaxLess1.isLt
  refine ⟨_, rfl, rfl, fun i hi => ?_, fun i hi => ?_, fun x hx => ?_⟩
  · exact (memRead_zeroInputs s _).trans (if_pos (by omega))
  · exact (memRead_zeroInputs s _).trans (if_pos (by omega))
  · exact (memRead_zeroInputs s _).trans (if_neg (by omega))

end Sys2Proof.Proofs.Driver

/-! PROOFS. The error path (spec/60_exceptions.md R194 to R196): the two clears, which complete whatever the answer's error bit
says, and the zeroisation. -/

namespace Sys2Proof.Proofs.ErrorPath

open Sys2Proof.Machine Sys2Proof.Proofs.UnansweredRequest Sys2Proof.Proofs.PortSVisits Sys2Proof.Proofs.BcryptHash
open Sys2Proof.Proofs.Commands Sys2Proof.Proofs.Driver
open Sys2Proof.Safety (IsBufferByte)

/-! ### The two clears -/

/-- On the error path any answer on port S completes the visit (R194). -/
theorem visitS_complete_of_onErrorPath {here : SeqState} {beats : List SBeat} {complete : Bytes64 → State → State}
    {s : State} {r : SRsp} (hpath : SeqState.onErrorPath here = true) (ho : s.outstanding = true) (hr : s.sRsp = some r) :
    s.visitS here beats complete = complete r.data { s with sRsp := none, outstanding := false } := by
  simp [State.visitS, ho, hr, hpath]

/-- Settles O36: both micro-steps are port visits of the error path. -/
theorem errorPathClearsBothEngines : Obligations.ErrorPathClearsBothEngines := fun _ =>
  ⟨fun ho hslot => congrArg _ (visitS_issue ho hslot), fun ho hslot => congrArg _ (visitS_full ho hslot),
    fun _ _ ho hr => congrArg _ (visitS_complete_of_onErrorPath rfl ho hr),
    fun ho hr => congrArg _ (visitS_waiting _ _ _ ho hr),
    fun ho hslot => congrArg _ (visitB_issue ho hslot), fun ho hslot => congrArg _ (visitB_full ho hslot),
    fun _ _ ho hr => congrArg _ (visitB_complete ho hr (.inr rfl)),
    fun ho hr => congrArg _ (visitB_waiting _ _ _ ho hr)⟩

/-! ### ERR_ZERO -/

/-- After ERR_ZERO's zeroisation each byte of the three buffers reads 0 and every other byte as before (R196). -/
theorem memRead_zeroSecrets_zeroOut (s : State) (x : Nat) :
    (IsBufferByte s.params x → memRead s.zeroSecrets.zeroOut.mem x = 0) ∧
      (¬IsBufferByte s.params x → memRead s.zeroSecrets.zeroOut.mem x = memRead s.mem x) := by
  have hinputs : s.zeroSecrets.mem = s.zeroInputs.mem := rfl
  rw [memRead_zeroOut, hinputs, memRead_zeroInputs]
  simp only [IsBufferByte, pwBase, saltBase, outBase, outBytes]
  grind

/-- Settles O37: the registers are those of the zeroisation, and the memory changes in the three buffers alone. -/
theorem errorZeroesEverything : Obligations.ErrorZeroesEverything := fun s =>
  ⟨_, rfl, rfl, fun x => (memRead_zeroSecrets_zeroOut s x).1, fun x => (memRead_zeroSecrets_zeroOut s x).2⟩

end Sys2Proof.Proofs.ErrorPath

/-! PROOFS. The report flags (spec/60_exceptions.md R192): the sequencer and the engines only ever set a flag, in IDLE they keep
ERRCODE, and the host lowers a flag by a write to STATUS, by START or by ZEROIZE alone. -/

namespace Sys2Proof.Proofs.Report

open Sys2Proof.Machine Sys2Proof.Proofs.Frames Sys2Proof.Proofs.CommandWords Sys2Proof.Proofs.Idle
open Sys2Proof.Laws.WordFormat (Format.ofInstr)

/-! ### Flags that only rise -/

/-- A report flag that is 1 in `s` is 1 in `t`. A field that the update from `s` to `t` leaves alone need not be given. -/
structure FlagsRise (s t : State) : Prop where
  cmdErr : s.cmdErr = true → t.cmdErr = true := by exact id
  wErr : s.wErr = true → t.wErr = true := by exact id
  err : s.err = true → t.err = true := by exact id
  done : s.done = true → t.done = true := by exact id

theorem flagsRise_of_engineFrame {s t : State} (h : EngineFrame s t) : FlagsRise s t := by
  unfold EngineFrame at h
  rw [h]
  exact {}

/-! ### The sequencer -/

/-- Where the outcome is a next state, the flags of `s` have only risen in it. -/
def NextRaisesFlags (s : State) (o : Host.Outcome State Fault Refusal) : Prop := ∀ t, o = .next t → FlagsRise s t

theorem FlagsRise.next {s t : State} (h : FlagsRise s t) : NextRaisesFlags s (.next t) := by
  rintro _ ⟨⟩; exact h

theorem nextRaisesFlags_fault (s : State) (f : Fault) : NextRaisesFlags s (.fault f) := by
  rintro _ ⟨⟩

/-- A port S visit lowers no flag if its completion lowers none: issue, wait and SHA_FAULT write none (R101, R102, R189). -/
theorem visitS_raisesFlags (here : SeqState) (beats : List SBeat) {complete : Bytes64 → State → State} (s : State)
    (hc : ∀ d, FlagsRise s (complete d { s with sRsp := none, outstanding := false })) :
    NextRaisesFlags s (.next (s.visitS here beats complete)) := by
  refine FlagsRise.next ?_
  obtain ⟨-, h⟩ | ⟨-, -, h⟩ | ⟨r, -, -, -, h⟩ | ⟨r, -, -, -, -, h⟩ := s.visitS_cases here beats complete <;> rw [h]
  · obtain ⟨-, hi⟩ | ⟨-, hi⟩ := s.issueS_cases beats <;> rw [hi] <;> exact {}
  · exact {}
  · exact hc _
  · exact {}

/-- A port B visit lowers no flag if its completion lowers none: issue, wait and BF_FAULT write none (R103, R104, R190). -/
theorem visitB_raisesFlags (here : SeqState) (q : BReq) {complete : Words8 → State → State} (s : State)
    (hc : ∀ w, FlagsRise s (complete w { s with bRsp := none, outstanding := false })) :
    NextRaisesFlags s (.next (s.visitB here q complete)) := by
  refine FlagsRise.next ?_
  obtain ⟨-, h⟩ | ⟨-, -, h⟩ | ⟨r, -, -, -, h⟩ | ⟨r, -, -, -, -, h⟩ := s.visitB_cases here q complete <;> rw [h]
  · obtain ⟨-, hi⟩ | ⟨-, hi⟩ := s.issueB_cases q <;> rw [hi] <;> exact {}
  · exact {}
  · exact hc _
  · exact {}

theorem execStateCheck_raisesFlags (s : State) : NextRaisesFlags s (execStateCheck s) := by
  unfold execStateCheck
  split_ifs <;> exact FlagsRise.next {}

theorem execStatePhUpd_raisesFlags (s : State) : NextRaisesFlags s (execStatePhUpd s) := by
  unfold execStatePhUpd
  split_ifs
  · exact nextRaisesFlags_fault _ _
  · exact visitS_raisesFlags _ _ _ fun _ => {}

theorem execStateSsUpd_raisesFlags (s : State) : NextRaisesFlags s (execStateSsUpd s) := by
  unfold execStateSsUpd
  split_ifs
  · exact nextRaisesFlags_fault _ _
  · exact visitS_raisesFlags _ _ _ fun _ => {}

theorem execStateAcc_raisesFlags (s : State) : NextRaisesFlags s (execStateAcc s) := by
  unfold execStateAcc
  dsimp only
  split_ifs <;> exact FlagsRise.next {}

theorem execStateDist_raisesFlags (s : State) : NextRaisesFlags s (execStateDist s) := by
  unfold execStateDist
  dsimp only
  split_ifs
  · exact nextRaisesFlags_fault _ _
  all_goals exact FlagsRise.next {}

/-- No micro-step lowers a report flag; FIN_ZERO sets DONE and ERR_ZERO sets ERR (R171, R196). -/
theorem exec_state_raisesFlags (st : SeqState) (s : State) : NextRaisesFlags s (exec st.instr s) := by
  cases st with
  | finZero => exact FlagsRise.next { done := fun _ => rfl }
  | errZero => exact FlagsRise.next { err := fun _ => rfl }
  | check => exact execStateCheck_raisesFlags s
  | phUpd => exact execStatePhUpd_raisesFlags s
  | ssUpd => exact execStateSsUpd_raisesFlags s
  | acc => exact execStateAcc_raisesFlags s
  | dist => exact execStateDist_raisesFlags s
  | idle | bhLdc | bhSer => exact FlagsRise.next {}
  | bhE0p | bhEnc => exact visitB_raisesFlags _ _ _ fun _ => by split_ifs <;> exact {}
  | phInit | phFin | ssInit | ssFin | rhInit | rhUpd | rhFin | finSclr | errSclr =>
    exact visitS_raisesFlags _ _ _ fun _ => {}
  | bhInit | bhExp | bhE0s | bhClr | errBclr => exact visitB_raisesFlags _ _ _ fun _ => {}

theorem seqStep_flagsRise {s t : State} (h : seqStep s = .next t) : FlagsRise s t := by
  obtain ⟨-, hs⟩ | ⟨-, hs⟩ := seqStep_cases s <;> rw [hs] at h
  · cases h; exact {}
  · exact exec_state_raisesFlags s.st s t h

/-! ### The writes that lower a flag -/

/-- The access writes the word `v` to the offset. -/
def WritesWord (p : Params) (a : BusAccess) (off : Nat) (v : Word) : Prop :=
  a.write = true ∧ a.addr = p.base + off ∧ a.wdata = v

/-- The event is a host write to the offset of a word with the property `q`. -/
def HostWrites (p : Params) (e : Event) (off : Nat) (q : Word → Prop) : Prop :=
  ∃ a, e = .host a ∧ a.write = true ∧ a.addr = p.base + off ∧ q a.wdata

theorem WritesWord.hostWrites {p : Params} {a : BusAccess} {off : Nat} {v : Word} {q : Word → Prop}
    (h : WritesWord p a off v) (hq : q v) : HostWrites p (.host a) off q := by
  obtain ⟨hw, haddr, rfl⟩ := h
  exact ⟨a, rfl, hw, haddr, hq⟩

/-- The event `e` keeps the report from `s` to `t`, unless it is one of the host writes R192 names. -/
structure Sticky (e : Event) (s t : State) : Prop where
  cmdErr : s.cmdErr = true → t.cmdErr = true ∨ HostWrites s.params e 0x00C fun v => v.getLsbD 3 = true
  wErr : s.wErr = true → t.wErr = true ∨ HostWrites s.params e 0x00C fun v => v.getLsbD 4 = true
  err : s.err = true →
    t.err = true ∨ (HostWrites s.params e 0x00C fun v => v.getLsbD 2 = true) ∨ HostWrites s.params e 0x010 fun v => v = 1
  done : s.done = true →
    t.done = true ∨ (HostWrites s.params e 0x00C fun v => v.getLsbD 1 = true) ∨
      HostWrites s.params e 0x010 fun v => v = 1 ∨ v = 3
  errCode : s.st = .idle → t.errCode = s.errCode ∨ HostWrites s.params e 0x010 fun v => v = 1

/-- An event that lowers no flag, and in IDLE keeps ERRCODE, is no exception of R192. -/
theorem FlagsRise.sticky {e : Event} {s t : State} (h : FlagsRise s t) (hcode : s.st = .idle → t.errCode = s.errCode) :
    Sticky e s t :=
  ⟨fun hf => .inl (h.cmdErr hf), fun hf => .inl (h.wErr hf), fun hf => .inl (h.err hf), fun hf => .inl (h.done hf),
    fun hi => .inl (hcode hi)⟩

/-- A write-1-to-clear flag stays, or the written bit is 1 (R85). -/
theorem and_not_or_bit {flag bit : Bool} (h : flag = true) : (flag && !bit) = true ∨ bit = true := by
  cases bit <;> simp [h]

/-- A STATUS write lowers only the flags whose bit it writes with 1 (R85). -/
theorem clearFlags_sticky {a : BusAccess} {s : State} {v : Word} (hw : WritesWord s.params a 0x00C v) :
    Sticky (.host a) s (s.ack.clearFlags v) where
  cmdErr hf := (and_not_or_bit hf).imp_right hw.hostWrites
  wErr hf := (and_not_or_bit hf).imp_right hw.hostWrites
  err hf := (and_not_or_bit hf).imp_right fun hbit => .inl (hw.hostWrites hbit)
  done hf := (and_not_or_bit hf).imp_right fun hbit => .inl (hw.hostWrites hbit)
  errCode _ := .inl rfl

/-- START while busy sets CMDERR, and while idle lowers DONE and ERR and clears ERRCODE (R88). -/
theorem exec_start_sticky {a : BusAccess} {s t : State} (hw : WritesWord s.params a 0x010 1)
    (h : exec .start s.ack = .next t) : Sticky (.host a) s t := by
  by_cases hb : s.ack.busy = true
  · obtain rfl := Host.Outcome.next.inj ((if_pos hb).symm.trans h)
    exact FlagsRise.sticky { cmdErr := fun _ => rfl } fun _ => rfl
  · obtain rfl := Host.Outcome.next.inj ((if_neg hb).symm.trans h)
    exact ⟨.inl, .inl, fun _ => .inr (.inr (hw.hostWrites rfl)), fun _ => .inr (.inr (hw.hostWrites (.inl rfl))),
      fun _ => .inr (hw.hostWrites rfl)⟩

/-- ZEROIZE while busy sets CMDERR, and while idle lowers DONE alone (R90). -/
theorem exec_zeroize_sticky {a : BusAccess} {s t : State} (hw : WritesWord s.params a 0x010 3)
    (h : exec .zeroize s.ack = .next t) : Sticky (.host a) s t := by
  by_cases hb : s.ack.busy = true
  · obtain rfl := Host.Outcome.next.inj ((if_pos hb).symm.trans h)
    exact FlagsRise.sticky { cmdErr := fun _ => rfl } fun _ => rfl
  · obtain rfl := Host.Outcome.next.inj ((if_neg hb).symm.trans h)
    exact ⟨.inl, .inl, .inl, fun _ => .inr (.inr (hw.hostWrites (.inr rfl))), fun _ => .inl rfl⟩

/-- ABORT touches neither the report flags nor ERRCODE (R89). -/
theorem exec_abort_sticky {e : Event} {s t : State} (h : exec .abort s.ack = .next t) : Sticky e s t := by
  by_cases hb : s.ack.busy = true
  · obtain rfl := Host.Outcome.next.inj ((if_pos hb).symm.trans h)
    exact FlagsRise.sticky {} fun _ => rfl
  · obtain rfl := Host.Outcome.next.inj ((if_neg hb).symm.trans h)
    exact FlagsRise.sticky {} fun _ => rfl

/-- Of the command words only START and ZEROIZE lower a flag (R63, R87 to R90). -/
theorem exec_wr32Cmd_sticky {a : BusAccess} {s t : State} {w : Word} (hw : WritesWord s.params a 0x010 w)
    (h : exec (.wr32Cmd w) s = .next t) : Sticky (.host a) s t := by
  rw [exec_wr32Cmd, decodeCmd_eq] at h
  split_ifs at h with h0 h1 h2 h3
  · cases h; exact FlagsRise.sticky {} fun _ => rfl
  · exact exec_start_sticky (h1 ▸ hw) h
  · exact exec_abort_sticky h
  · exact exec_zeroize_sticky (h3 ▸ hw) h
  · cases h; exact FlagsRise.sticky { cmdErr := fun _ => rfl } fun _ => rfl

/-! ### The host -/

/-- A bus operation lowers a flag only as a STATUS write or a command (R83 to R92). -/
theorem exec_hostbus_sticky {a : BusAccess} {i : Instr} {s t : State} (hf : Format.ofInstr i = .hostbus15)
    (hstatus : ∀ v, i = .wr32Status v → WritesWord s.params a 0x00C v)
    (hcmd : ∀ w, i = .wr32Cmd w → WritesWord s.params a 0x010 w) (h : exec i s = .next t) : Sticky (.host a) s t := by
  cases i with
  | rd32 | wr32 | wr32Ctrl => cases h; exact FlagsRise.sticky {} fun _ => rfl
  | wr32Status v => cases h; exact clearFlags_sticky (hstatus v rfl)
  | wr32Cmd w => exact exec_wr32Cmd_sticky (hcmd w rfl) h
  | wr32PwLen | wr32SaltLen | wr32OutLen | wr32Rounds | wr32Pwbuf | wr32Saltbuf =>
    by_cases hb : s.busy = true
    · obtain rfl := Host.Outcome.next.inj ((if_pos hb).symm.trans h)
      exact FlagsRise.sticky { wErr := fun _ => rfl } fun _ => rfl
    · obtain rfl := Host.Outcome.next.inj ((if_neg hb).symm.trans h)
      exact FlagsRise.sticky {} fun _ => rfl
  | _ => cases hf

/-- A write decodes to STATUS's row at STATUS's offset alone, with the word written (R78, R82). -/
theorem eq_status_of_decodeWrite {off : BitVec 14} {v w : Word} (h : decodeWrite off v = .wr32Status w) :
    off = 0x00C ∧ v = w := by
  unfold decodeWrite at h
  split_ifs at h with _ hoff
  all_goals cases h
  exact ⟨hoff, rfl⟩

/-- An access in the region that decodes to STATUS's row is a write of that word to STATUS's address (R40, R78). -/
theorem writesWord_of_decode_status {p : Params} {a : BusAccess} {v : Word} (hr : BusAccess.inRegion p a = true)
    (hd : decode (BusAccess.item p a) = .ok (.wr32Status v)) : WritesWord p a 0x00C v := by
  obtain ⟨hlo, hhi⟩ : p.base ≤ a.addr ∧ a.addr < p.base + 0x4000 := by simpa [BusAccess.inRegion] using hr
  have hrow := decode_item hd
  cases hw : a.write with
  | false => simp [hw] at hrow
  | true =>
    rw [hw, if_pos rfl] at hrow
    obtain ⟨hoff, hv⟩ := eq_status_of_decodeWrite hrow.symm
    refine ⟨hw, ?_, hv⟩
    bv_omega

theorem hostStep_sticky {a : BusAccess} {s t : State} (h : hostStep a s = .next t) : Sticky (.host a) s t := by
  obtain hs | hs | ⟨i, hr, -, hd, hs⟩ := hostStep_cases a s <;> rw [hs] at h
  · cases h; exact FlagsRise.sticky {} fun _ => rfl
  · cases h; exact FlagsRise.sticky {} fun _ => rfl
  · exact exec_hostbus_sticky (decode_format hd) (fun v hi => writesWord_of_decode_status hr (hi ▸ hd))
      (fun w hi => access_of_decode_cmd hr (hi ▸ hd)) h

/-! ### One step of any agent -/

theorem errCode_of_engineFrame {s t : State} (h : EngineFrame s t) : t.errCode = s.errCode := by
  unfold EngineFrame at h
  rw [h]

theorem sticky_of_engineFrame {e : Event} {s t : State} (h : EngineFrame s t) : Sticky e s t :=
  (flagsRise_of_engineFrame h).sticky fun _ => errCode_of_engineFrame h

/-- The sequencer lowers no flag, and has no step in IDLE (R120). -/
theorem seqStep_sticky {e : Event} {s t : State} (h : seqStep s = .next t) : Sticky e s t := by
  refine (seqStep_flagsRise h).sticky fun hi => ?_
  obtain rfl : s = t := Host.Outcome.next.inj ((seqStep_idle hi).symm.trans h)
  rfl

/-- Every event but the reset keeps the report, but for the host writes R192 names. -/
theorem runEvent_sticky {e : Event} {s t : State} (hrst : e ≠ .rst) (h : runEvent e s = .next t) : Sticky e s t := by
  cases e with
  | host a => exact hostStep_sticky h
  | seq => exact seqStep_sticky h
  | acceptS => cases h; exact sticky_of_engineFrame (acceptS_frame s)
  | answerS err => exact sticky_of_engineFrame (answerStepS_frame h)
  | acceptB => cases h; exact sticky_of_engineFrame (acceptB_frame s)
  | answerB err => exact sticky_of_engineFrame (answerStepB_frame h)
  | rst => exact absurd rfl hrst

/-- Taking the event off the agenda touches nothing the report speaks of. -/
theorem Sticky.of_takeEvent {e : Event} {s t : State} (h : Sticky e s.takeEvent.2 t) : Sticky e s t := by
  obtain ⟨_, rest, -, htake⟩ | ⟨-, htake⟩ := s.takeEvent_cases <;> rw [htake] at h
  · exact ⟨h.cmdErr, h.wErr, h.err, h.done, h.errCode⟩
  · exact ⟨h.cmdErr, h.wErr, h.err, h.done, h.errCode⟩

/-- Settles O40, from what each event does to the report; only the host's writes lower a flag. -/
theorem reportIsSticky : Obligations.ReportIsSticky := by
  intro s t hstep hrst
  obtain ⟨hcmdErr, hwErr, herr, hdone, hcode⟩ := (runEvent_sticky hrst hstep).of_takeEvent
  exact ⟨hcmdErr, hwErr, herr, hdone, hcode⟩

end Sys2Proof.Proofs.Report

/-! PROOFS. The round trip through the encoder (spec/30_encoding.md R61, R70 to R74, R78): the bus rows by their offsets, the
state codes by the table, and SHA_UPDATE by its payload beats, eight byte lanes a beat. -/

namespace Sys2Proof.Proofs.RoundTrip

open Sys2Proof.Machine Sys2Proof.Proofs.HostReads Sys2Proof.Proofs.HostWrites Sys2Proof.Proofs.CommandWords

/-! ### Byte lanes -/

theorem lanesToNat_lt (bs : List Byte) : lanesToNat bs < 256 ^ bs.length := by
  induction bs with
  | nil => simp [lanesToNat]
  | cons b bs ih =>
    have hb := b.isLt
    rw [lanesToNat, List.length_cons, pow_succ]
    omega

/-- The lanes of a byte sequence's number are the sequence (R71). -/
theorem natToLanes_lanesToNat (bs : List Byte) : natToLanes bs.length (lanesToNat bs) = bs := by
  induction bs with
  | nil => rfl
  | cons b bs ih =>
    have hb := b.isLt
    have hlow : BitVec.ofNat 8 (b.toNat + 256 * lanesToNat bs) = b := BitVec.eq_of_toNat_eq (by simp; omega)
    have hrest : (b.toNat + 256 * lanesToNat bs) / 256 = lanesToNat bs := by omega
    simp only [lanesToNat, List.length_cons, natToLanes, hlow, hrest, ih]

/-- At most eight bytes fit the data lines of one beat (R71). -/
theorem toNat_beat {bs : List Byte} (h : bs.length ≤ 8) : (BitVec.ofNat 64 (lanesToNat bs)).toNat = lanesToNat bs := by
  have hpow : 256 ^ bs.length ≤ 256 ^ 8 := Nat.pow_le_pow_right (by decide) h
  exact Nat.mod_eq_of_lt ((lanesToNat_lt bs).trans_le hpow)

/-! ### The payload of SHA_UPDATE -/

/-- A payload is a beat of its first eight bytes, final if there are no more, and the beats of the rest (R71). -/
theorem payloadBeats_succ {p : List Byte} (h : 1 ≤ p.length) (fuel : Nat) :
    payloadBeats (fuel + 1) p =
      .payload (BitVec.ofNat 64 (lanesToNat (p.take 8))) (decide (p.length ≤ 8)) :: payloadBeats fuel (p.drop 8) := by
  cases p with
  | nil => simp at h
  | cons b p => rfl

theorem payloadBytes_final {n : Nat} (hlo : 1 ≤ n) (hhi : n ≤ 8) {d : BitVec 64} (hd : d.toNat < 256 ^ n) :
    payloadBytes n [.payload d true] = some (natToLanes n d.toNat) := by
  obtain ⟨n, rfl⟩ := Nat.exists_eq_add_of_le' hlo
  simp [payloadBytes, hhi, Nat.div_eq_of_lt hd]

theorem payloadBytes_more {n : Nat} (h : 8 < n) (d : BitVec 64) (rest : List SBeat) :
    payloadBytes n (.payload d false :: rest) = (payloadBytes (n - 8) rest).map (natToLanes 8 d.toNat ++ ·) := by
  obtain ⟨n, rfl⟩ := Nat.exists_eq_add_of_le' (show 1 ≤ n by omega)
  rw [payloadBytes, if_neg (by omega), if_neg (by decide)]

/-- The payload beats of a byte sequence are read back as the sequence (R71). -/
theorem payloadBytes_payloadBeats (n : Nat) (p : List Byte) (hn : (p.length + 7) / 8 = n) (hlo : 1 ≤ p.length) :
    payloadBytes p.length (payloadBeats n p) = some p := by
  induction n generalizing p with
  | zero => omega
  | succ n ih =>
    by_cases h : p.length ≤ 8
    · obtain rfl : n = 0 := by omega
      have hlt : (BitVec.ofNat 64 (lanesToNat p)).toNat < 256 ^ p.length := by
        rw [toNat_beat h]
        exact lanesToNat_lt p
      rw [payloadBeats_succ hlo, List.take_of_length_le h, decide_eq_true h, payloadBeats, payloadBytes_final hlo h hlt,
        toNat_beat h, natToLanes_lanesToNat]
    · have hfirst : (p.take 8).length = 8 := List.length_take_of_le (by omega)
      have hrest : (p.drop 8).length = p.length - 8 := List.length_drop
      have hlanes := natToLanes_lanesToNat (p.take 8)
      rw [hfirst] at hlanes
      rw [payloadBeats_succ hlo, decide_eq_false h, payloadBytes_more (by omega), ← hrest, ih _ (by omega) (by omega),
        toNat_beat hfirst.le, hlanes, Option.map_some, List.take_append_drop]

/-- The beats of SHA_UPDATE decode to it, for every length R72 admits. -/
theorem decodePortS_updateBeats {p : List Byte} (hlo : 1 ≤ p.length) (hhi : p.length ≤ 4100) :
    decodePortS (updateBeats p) = .ok (.shaUpdate p) := by
  have hlen : (BitVec.ofNat 13 p.length).toNat = p.length := Nat.mod_eq_of_lt (by omega)
  have hne : BitVec.ofNat 13 p.length ≠ 0 := fun h => by
    rw [h] at hlen
    have hzero : (0 : BitVec 13).toNat = 0 := rfl
    omega
  have hfirst : ¬p.length = 0 := by omega
  simp only [updateBeats, decodePortS, if_pos, hlen, payloadBytes_payloadBeats _ p rfl hlo, decide_eq_false hfirst]
  simpa using ⟨hne, hhi⟩

/-! ### Bus operations -/

theorem decode_busRead {off : BitVec 14} (ha : aligned off = true) : decode (.bus (busRead off) 0) = .ok (.rd32 off) := by
  have hoff : (busRead off).extractLsb' 0 14 = off := BitVec.extractLsb'_append_eq_right
  have hdir : (busRead off).extractLsb' 14 1 = 0#1 := BitVec.extractLsb'_append_eq_left
  have hlow : off.extractLsb' 0 2 = 0 := by simpa [aligned] using ha
  simp [decode, decodeBus, hoff, hdir, hlow]

/-- The number of an offset written as page, word index and two zero bits. -/
theorem toNat_windowOffset (page : BitVec 2) (k : BitVec 10) :
    (page ++ k ++ 0#2).toNat = page.toNat * 0x1000 + 4 * k.toNat := by
  have hk := k.isLt
  rw [BitVec.toNat_append, BitVec.toNat_append, ← Nat.shiftLeft_add_eq_or_of_lt hk]
  simp [Nat.shiftLeft_eq]
  omega

/-- An offset in an input window selects the window's row, with the word's index (R78, R91). -/
theorem decodeWrite_window {page : BitVec 2} (hpage : page = 1 ∨ page = 2) (k : BitVec 10) (v : Word) :
    decodeWrite (page ++ k ++ 0#2) v = if page = 1 then .wr32Pwbuf k v else .wr32Saltbuf k v := by
  have hk := k.isLt
  have hnum := toNat_windowOffset page k
  have hpages : (page ++ k ++ 0#2).extractLsb' 12 2 = page := by
    rw [page_eq_iff, hnum]
    omega
  have hindex : (page ++ k ++ 0#2).extractLsb' 2 10 = k := by
    rw [BitVec.toNat_eq, BitVec.extractLsb'_toNat, hnum, Nat.shiftRight_eq_div_pow]
    omega
  have hhigh : 0x1000 ≤ (page ++ k ++ 0#2).toNat := by
    have hpos : 1 ≤ page.toNat := by obtain rfl | rfl := hpage <;> decide
    omega
  have hne (c : BitVec 14) (hc : c.toNat < 0x1000) : page ++ k ++ 0#2 ≠ c := by
    rintro rfl
    omega
  have hregisters : decodeWrite (page ++ k ++ 0#2) v =
      if page = 1 then .wr32Pwbuf k v else if page = 2 then .wr32Saltbuf k v else .wr32 (page ++ k ++ 0#2) v := by
    rw [decodeWrite, hpages, hindex, if_neg (hne _ (by decide)), if_neg (hne _ (by decide)), if_neg (hne _ (by decide)),
      if_neg (hne _ (by decide)), if_neg (hne _ (by decide)), if_neg (hne _ (by decide)), if_neg (hne _ (by decide))]
  obtain rfl | rfl := hpage <;> exact hregisters

theorem low_bits_windowOffset (page : BitVec 2) (k : BitVec 10) : (page ++ k ++ 0#2).extractLsb' 0 2 = 0 :=
  BitVec.extractLsb'_append_eq_right

/-- A window word's item decodes to the window's row. -/
theorem decode_busWrite_window {page : BitVec 2} (hpage : page = 1 ∨ page = 2) (k : BitVec 10) (v : Word) :
    decode (.bus (busWrite (page ++ k ++ 0#2)) v) = .ok (if page = 1 then .wr32Pwbuf k v else .wr32Saltbuf k v) := by
  rw [decode_busWrite v (low_bits_windowOffset page k), decodeWrite_window hpage]

/-- An aligned offset that no row with a wider mask takes selects WR32 (R78). -/
theorem decodeWrite_of_not_dispatched {off : BitVec 14} (h : dispatchedWrite off = false) (v : Word) :
    decodeWrite off v = .wr32 off v := by
  simp only [dispatchedWrite, Bool.or_eq_false_iff, beq_eq_false_iff_ne] at h
  obtain ⟨⟨⟨⟨⟨⟨⟨⟨hctrl, hstatus⟩, hcmd⟩, hpwLen⟩, hsaltLen⟩, houtLen⟩, hrounds⟩, hpw⟩, hsalt⟩ := h
  rw [decodeWrite, if_neg hctrl, if_neg hstatus, if_neg hcmd, if_neg hpwLen, if_neg hsaltLen, if_neg houtLen,
    if_neg hrounds, if_neg hpw, if_neg hsalt]

/-- Settles O3: bus rows by direction and offset, commands by the whole word, states by the code table, and port requests by
their beats, of which only SHA_UPDATE's carry an operand in several. -/
theorem decodeOfEncodeIsTheInstruction : Obligations.DecodeOfEncodeIsTheInstruction := by
  intro i hwf
  cases i with
  | rd32 off => exact decode_busRead hwf
  | wr32 off v =>
    obtain ⟨ha, hd⟩ : aligned off = true ∧ dispatchedWrite off = false := by simpa [WellFormed] using hwf
    have hlow : off.extractLsb' 0 2 = 0 := by simpa [aligned] using ha
    exact (decode_busWrite v hlow).trans (congrArg _ (decodeWrite_of_not_dispatched hd v))
  | wr32Pwbuf k v => exact decode_busWrite_window (.inl rfl) k v
  | wr32Saltbuf k v => exact decode_busWrite_window (.inr rfl) k v
  | cmdIllegal w =>
    have hw : 4 ≤ w.toNat := by simpa [WellFormed] using hwf
    have hne (c : Word) (hc : c.toNat < 4) : w ≠ c := by
      rintro rfl
      omega
    refine congrArg Decoded.ok ?_
    rw [decodeCmd_eq, if_neg (hne 0 (by decide)), if_neg (hne 1 (by decide)), if_neg (hne 2 (by decide)),
      if_neg (hne 3 (by decide))]
  | shaUpdate p =>
    obtain ⟨hlo, hhi⟩ : 1 ≤ p.length ∧ p.length ≤ 4100 := by simpa [WellFormed] using hwf
    exact decodePortS_updateBeats hlo hhi
  | _ => rfl

/-- Settles O2: each item is closed, so the decoder is evaluated on it. -/
theorem specWordsDecode : Obligations.SpecWordsDecode := by
  unfold Obligations.SpecWordsDecode
  decide

end Sys2Proof.Proofs.RoundTrip

/-! PROOFS. One step by the event that comes next (spec/10_state.md R10), and the state after a reset
(spec/70_reset_and_hazards.md R210). -/

namespace Sys2Proof.Proofs.Steps

open Sys2Proof.Machine Sys2Proof.Proofs.HostAccess
open Sys2Proof.Safety

/-! ### The step of each agent -/

theorem hostStep_of_decode {a : BusAccess} {i : Instr} {s : State} (hr : BusAccess.inRegion s.params a = true)
    (hl : BusAccess.legal a = true) (hd : decode (BusAccess.item s.params a) = .ok i) : hostStep a s = exec i s := by
  simp [hostStep, hr, hl, hd]

theorem seqStep_of_decode {i : Instr} {s : State} (ha : s.abortDue = false) (hd : decode (.state s.st.code) = .ok i) :
    seqStep s = exec i s := by
  simp [seqStep, ha, hd]

theorem answerStepS_of_decode {err : Bool} {i : Instr} {s : State} (hacc : s.sAcc ≠ [])
    (hd : decode (.portS s.sAcc) = .ok i) : answerStepS err s = exec i { s with errDraw := err } := by
  simp [answerStepS, hacc, hd]

theorem answerStepB_of_decode {err : Bool} {q : BReq} {i : Instr} {s : State} (hacc : s.bAcc = some q)
    (hd : decode (.portB q) = .ok i) : answerStepB err s = exec i { s with errDraw := err } := by
  simp [answerStepB, hacc, hd]

/-- Settles O1: the event at the head of the agenda is taken off, and the agent it names runs what it decodes. -/
theorem stepRunsTheDecodedInstruction : Obligations.StepRunsTheDecodedInstruction := by
  refine fun s rest => ⟨fun a i hag hr hl hd => ?host, fun i hag ha hd => ?seq, fun e i hag hacc hd => ?answerS,
    fun e q i hag hacc hd => ?answerB, fun hag => ?free⟩
  case host => exact (step_of_agenda_cons hag).trans (hostStep_of_decode hr hl hd)
  case seq => exact (step_of_agenda_cons hag).trans (seqStep_of_decode ha hd)
  case answerS => exact (step_of_agenda_cons hag).trans (answerStepS_of_decode hacc hd)
  case answerB => exact (step_of_agenda_cons hag).trans (answerStepB_of_decode hacc hd)
  case free => simp [step, State.takeEvent, hag]

/-! ### Reset -/

theorem resetWith_workZero (p : Params) : WorkZero (State.resetWith p) :=
  ⟨rfl, rfl, rfl, rfl, rfl, rfl, rfl, rfl, rfl, rfl, rfl⟩

theorem resetWith_portsEmpty (p : Params) : PortsEmpty (State.resetWith p) := ⟨rfl, rfl, rfl, rfl, rfl, rfl⟩

theorem resetBlock_workZero (s : State) : WorkZero s.resetBlock := resetWith_workZero s.params

theorem resetBlock_portsEmpty (s : State) : PortsEmpty s.resetBlock := resetWith_portsEmpty s.params

theorem resetWith_statusWord (p : Params) : (State.resetWith p).statusWord = 0 := by
  simp [State.statusWord, State.busy, State.irq, State.resetWith, bitAt]

/-- Settles O5: the state after reset is a literal. -/
theorem resetStateIsAllZero : Obligations.ResetStateIsAllZero :=
  ⟨rfl, fun p => ⟨rfl, rfl, rfl, rfl, rfl, rfl, resetWith_statusWord p, rfl, rfl, rfl, resetWith_workZero p,
    resetWith_portsEmpty p, rfl, memRead_nil, rfl⟩⟩

theorem readWord_id (s : State) : s.readWord 0x000 = 0x424B4446 := rfl

theorem readWord_version (s : State) : s.readWord 0x004 = 0x00010000 := rfl

theorem readWord_param (s : State) : s.readWord 0x038 = s.paramWord := rfl

/-- Settles O6: the reset event answers `State.resetBlock`, whose fields and derived outputs are read off. -/
theorem resetEventClearsTheBlock : Obligations.ResetEventClearsTheBlock := by
  intro s rest hag
  let u : State := { s with agenda := rest }
  have hparam : u.resetBlock.readWord 0x038 = s.readWord 0x038 :=
    (readWord_param _).trans (readWord_param s).symm
  exact ⟨u.resetBlock, step_of_agenda_cons hag, rfl, rfl, rfl, rfl, rfl, rfl, rfl, rfl, rfl, rfl, rfl, rfl, rfl, rfl, rfl,
    rfl, resetBlock_workZero u, memRead_nil, resetBlock_portsEmpty u, rfl, rfl, rfl, rfl, rfl, readWord_id _,
    readWord_version _, hparam⟩

end Sys2Proof.Proofs.Steps

/-! PROOFS. The engines' contracts (spec/41_sequencer_and_ports.md R105 to R108): every port operation is one answer of its
engine, and whether the block takes the answer depends on its ready output alone. -/

namespace Sys2Proof.Proofs.Engines

open Sys2Proof.Machine
open Sys2Proof.Laws.WordFormat (Format.ofInstr)

/-! ### An answer -/

theorem sRspReady_iff (s : State) : s.sRspReady = true ↔ s.outstanding = true ∧ s.st.port = .portS := by
  simp [State.sRspReady]

theorem bRspReady_iff (s : State) : s.bRspReady = true ↔ s.outstanding = true ∧ s.st.port = .portB := by
  simp [State.bRspReady]

/-- The context an answer of the SHA-512 engine leaves: free with an error (R106, R108). -/
def muAfter (mu : Mu) (s : State) : Mu := if s.errDraw then Config.freeMu s.drawn else mu

/-- The data an answer of the SHA-512 engine carries: free with an error (R106, R108). -/
def digestAfter (d : Bytes64) (s : State) : Bytes64 := if s.errDraw then Config.freeDigest s.drawn else d

/-- The state an answer of the Blowfish-family engine leaves: free with an error (R107, R108). -/
def sigmaAfter (sigma : Sigma) (s : State) : Sigma := if s.errDraw then Config.freeSigma s.drawn else sigma

/-- The words an answer of the Blowfish-family engine carries: free with an error (R107, R108). -/
def wordsAfter (w : Words8) (s : State) : Words8 := if s.errDraw then Config.freeWords s.drawn else w

/-- An awaited answer of the SHA-512 engine is taken into the response slot (R105). -/
theorem answerS_of_awaited (mu : Mu) (d : Bytes64) {s : State} (ho : s.outstanding = true) (hp : s.st.port = .portS)
    (hr : s.sRsp = none) :
    s.answerS mu d =
      { s with
        sAcc := [], mu := muAfter mu s, sRsp := some { err := s.errDraw, data := digestAfter d s }
        drawn := s.drawn + 1 } :=
  if_pos ⟨(sRspReady_iff s).2 ⟨ho, hp⟩, hr⟩

/-- While port S is not ready an answer changes nothing in the block (R105). -/
theorem answerS_of_not_ready (mu : Mu) (d : Bytes64) {s : State} (h : s.sRspReady = false) :
    s.answerS mu d = { s with sAcc := [], mu := muAfter mu s, drawn := s.drawn + 1 } :=
  if_neg fun hready => absurd (h.symm.trans hready.1) (by decide)

/-- An awaited answer of the Blowfish-family engine is taken into the response slot (R105). -/
theorem answerB_of_awaited (sigma : Sigma) (w : Words8) {s : State} (ho : s.outstanding = true) (hp : s.st.port = .portB)
    (hr : s.bRsp = none) :
    s.answerB sigma w =
      { s with
        bAcc := none, sigma := sigmaAfter sigma s, bRsp := some { err := s.errDraw, w := wordsAfter w s }
        drawn := s.drawn + 1 } :=
  if_pos ⟨(bRspReady_iff s).2 ⟨ho, hp⟩, hr⟩

/-- While port B is not ready an answer changes nothing in the block (R105). -/
theorem answerB_of_not_ready (sigma : Sigma) (w : Words8) {s : State} (h : s.bRspReady = false) :
    s.answerB sigma w = { s with bAcc := none, sigma := sigmaAfter sigma s, drawn := s.drawn + 1 } :=
  if_neg fun hready => absurd (h.symm.trans hready.1) (by decide)

/-! ### The operations -/

theorem exec_shaUpdate {s : State} {m : List Byte} (hmu : s.mu = .ctx m) (p : List Byte) :
    exec (.shaUpdate p) s = .next (s.answerS (.ctx (m ++ p)) (Config.freeDigest s.drawn)) := by
  simp [exec, execShaUpdate, hmu]

theorem exec_shaFinal {s : State} {m : List Byte} (hmu : s.mu = .ctx m) :
    exec .shaFinal s = .next (s.answerS (Config.freeMu s.drawn) (digestOf s.params m)) := by
  simp [exec, execShaFinal, hmu]

theorem exec_bfExpand {s : State} {c : List Word} (hs : s.sigma = .st c) (a k : Bytes64) :
    exec (.bfExpand a k) s = .next (s.answerB (.st (bfExpandOf s.params c a k)) (Config.freeWords s.drawn)) := by
  simp [exec, execBfExpand, hs]

theorem exec_bfExpand0 {s : State} {c : List Word} (hs : s.sigma = .st c) (a : Bytes64) :
    exec (.bfExpand0 a) s = .next (s.answerB (.st (bfExpand0Of s.params c a)) (Config.freeWords s.drawn)) := by
  simp [exec, execBfExpand0, hs]

theorem exec_bfEncrypt {s : State} {c : List Word} (hs : s.sigma = .st c) (w : Words8) :
    exec (.bfEncrypt w) s = .next (s.answerB (.st c) (bfEncryptOf s.params c w)) := by
  simp [exec, execBfEncrypt, hs]

/-- Whatever its state, BF_ENCRYPT keeps it (R117). -/
theorem exec_bfEncrypt_keeps_sigma (w : Words8) (s : State) : ∃ w', exec (.bfEncrypt w) s = .next (s.answerB s.sigma w') := by
  cases hs : s.sigma with
  | cleared => exact ⟨Config.freeWords s.drawn, by simp [exec, execBfEncrypt, hs]⟩
  | st c => exact ⟨_, exec_bfEncrypt hs w⟩

/-- Every port S operation is an answer of the SHA-512 engine (R110 to R113). -/
theorem exec_portS_answers {i : Instr} (hi : Format.ofInstr i = .portS) (s : State) :
    ∃ mu d, exec i s = .next (s.answerS mu d) := by
  cases i with
  | shaInit | shaClear => exact ⟨_, _, rfl⟩
  | shaUpdate p =>
    simp only [exec, execShaUpdate]
    split <;> exact ⟨_, _, rfl⟩
  | shaFinal =>
    simp only [exec, execShaFinal]
    split <;> exact ⟨_, _, rfl⟩
  | _ => cases hi

/-- Every port B operation is an answer of the Blowfish-family engine (R114 to R118). -/
theorem exec_portB_answers {i : Instr} (hi : Format.ofInstr i = .portB) (s : State) :
    ∃ sigma w, exec i s = .next (s.answerB sigma w) := by
  cases i with
  | bfInit | bfClear => exact ⟨_, _, rfl⟩
  | bfExpand a k =>
    simp only [exec, execBfExpand]
    split <;> exact ⟨_, _, rfl⟩
  | bfExpand0 a =>
    simp only [exec, execBfExpand0]
    split <;> exact ⟨_, _, rfl⟩
  | bfEncrypt w =>
    obtain ⟨w', hw⟩ := exec_bfEncrypt_keeps_sigma w s
    exact ⟨_, w', hw⟩
  | _ => cases hi

theorem format_of_mem_portS {p : List Byte} {i : Instr} (h : i ∈ [Instr.shaInit, .shaUpdate p, .shaFinal, .shaClear]) :
    Format.ofInstr i = .portS := by
  simp only [List.mem_cons, List.not_mem_nil, or_false] at h
  obtain rfl | rfl | rfl | rfl := h <;> rfl

theorem format_of_mem_portB {a k : Bytes64} {w : Words8} {i : Instr}
    (h : i ∈ [Instr.bfInit, .bfExpand a k, .bfExpand0 a, .bfEncrypt w, .bfClear]) : Format.ofInstr i = .portB := by
  simp only [List.mem_cons, List.not_mem_nil, or_false] at h
  obtain rfl | rfl | rfl | rfl | rfl := h <;> rfl

/-! ### The SHA-512 engine -/

section
variable {s : State} (ho : s.outstanding = true) (hp : s.st.port = .portS) (hr : s.sRsp = none)
include ho hp hr

/-- An awaited answer without an error carries what the operation gives (R106). -/
theorem answerS_awaited_ok (he : s.errDraw = false) (mu : Mu) (d : Bytes64) :
    s.answerS mu d =
      { s with sAcc := [], mu := mu, sRsp := some { err := false, data := d }, drawn := s.drawn + 1 } := by
  rw [answerS_of_awaited mu d ho hp hr]
  simp [muAfter, digestAfter, he]

/-- An awaited answer of any port S operation carries the drawn error bit (R108). -/
theorem exec_portS_awaited {i : Instr} (hi : Format.ofInstr i = .portS) :
    ∃ mu' d, exec i s =
      .next { s with sAcc := [], mu := mu', sRsp := some { err := s.errDraw, data := d }, drawn := s.drawn + 1 } := by
  obtain ⟨mu, d, h⟩ := exec_portS_answers hi s
  exact ⟨_, _, h.trans (congrArg _ (answerS_of_awaited mu d ho hp hr))⟩

end

theorem digestOf_fips {p : Params} (h : p.sha = .fips) (m : List Byte) : digestOf p m = sha512 m := by
  simp [digestOf, h]

/-- Settles O42: each operation is an answer, and the answer is awaited. -/
theorem shaEngineKeepsItsContract : Obligations.ShaEngineKeepsItsContract := by
  refine fun s ho hp hr => ⟨fun he => ?_, fun he p i hi => ?_⟩
  · have hok (mu : Mu) (d : Bytes64) := congrArg (Host.Outcome.next (φ := Fault) (ρ := Refusal))
      (answerS_awaited_ok ho hp hr he mu d)
    refine ⟨⟨_, hok ..⟩, fun m p hmu => ⟨_, (exec_shaUpdate hmu p).trans (hok ..)⟩, fun m hmu hfips => ?_, ⟨_, hok ..⟩⟩
    rw [← digestOf_fips hfips]
    exact ⟨_, (exec_shaFinal hmu).trans (hok ..)⟩
  · rw [← he]
    exact exec_portS_awaited ho hp hr (format_of_mem_portS hi)

/-! ### The Blowfish-family engine -/

section
variable {s : State} (ho : s.outstanding = true) (hp : s.st.port = .portB) (hr : s.bRsp = none)
include ho hp hr

/-- An awaited answer without an error carries what the operation gives (R107). -/
theorem answerB_awaited_ok (he : s.errDraw = false) (sigma : Sigma) (w : Words8) :
    s.answerB sigma w =
      { s with bAcc := none, sigma := sigma, bRsp := some { err := false, w := w }, drawn := s.drawn + 1 } := by
  rw [answerB_of_awaited sigma w ho hp hr]
  simp [sigmaAfter, wordsAfter, he]

/-- An awaited answer of any port B operation carries the drawn error bit (R108). -/
theorem exec_portB_awaited {i : Instr} (hi : Format.ofInstr i = .portB) :
    ∃ sigma' w', exec i s =
      .next { s with bAcc := none, sigma := sigma', bRsp := some { err := s.errDraw, w := w' }, drawn := s.drawn + 1 } := by
  obtain ⟨sigma, w, h⟩ := exec_portB_answers hi s
  exact ⟨_, _, h.trans (congrArg _ (answerB_of_awaited sigma w ho hp hr))⟩

end

/-- Settles O43: each operation is an answer, and the answer is awaited. -/
theorem blowfishEngineKeepsItsContract : Obligations.BlowfishEngineKeepsItsContract := by
  refine fun s ho hp hr => ⟨fun he => ?_, fun he a k w i hi => ?_⟩
  · have hok (sigma : Sigma) (w : Words8) := congrArg (Host.Outcome.next (φ := Fault) (ρ := Refusal))
      (answerB_awaited_ok ho hp hr he sigma w)
    refine ⟨⟨_, hok ..⟩, fun c a k hs => ⟨_, (exec_bfExpand hs a k).trans (hok ..)⟩,
      fun c a hs => ⟨_, (exec_bfExpand0 hs a).trans (hok ..)⟩, fun c w hs => ?_, ⟨_, hok ..⟩⟩
    rw [exec_bfEncrypt hs, hok, ← hs]
  · rw [← he]
    exact exec_portB_awaited ho hp hr (format_of_mem_portB hi)

/-! ### Answers with free values, and answers that are not taken -/

/-- Settles O44: an operation is an answer whatever the context, and BF_ENCRYPT keeps the state it meets. -/
theorem clearedEnginesStillAnswer : Obligations.ClearedEnginesStillAnswer := by
  refine ⟨fun s p ho hp hr he hmu i hi => ?_, fun s a k ho hp hr he hs i hi => ?_, fun s w ho hp hr he hs => ?_⟩
  · have hformat : Format.ofInstr i = .portS := by
      simp only [List.mem_cons, List.not_mem_nil, or_false] at hi
      obtain rfl | rfl := hi <;> rfl
    rw [← he]
    exact exec_portS_awaited ho hp hr hformat
  · have hformat : Format.ofInstr i = .portB := by
      simp only [List.mem_cons, List.not_mem_nil, or_false] at hi
      obtain rfl | rfl := hi <;> rfl
    rw [← he]
    exact exec_portB_awaited ho hp hr hformat
  · obtain ⟨w', hw⟩ := exec_bfEncrypt_keeps_sigma w s
    exact ⟨w', hw.trans (congrArg _ (answerB_awaited_ok ho hp hr he s.sigma w'))⟩

/-- Settles O45: the ready outputs by their definition, and an answer offered to a port that is not ready. -/
theorem answersAreTakenOnlyWhenAwaited : Obligations.AnswersAreTakenOnlyWhenAwaited := by
  refine ⟨fun s => ⟨(sRspReady_iff s).1, (bRspReady_iff s).1⟩, fun s p hready i hi => ?_, fun s a k w hready i hi => ?_⟩
  · obtain ⟨mu, d, h⟩ := exec_portS_answers (format_of_mem_portS hi) s
    exact ⟨_, h.trans (congrArg _ (answerS_of_not_ready mu d hready))⟩
  · obtain ⟨sigma, w', h⟩ := exec_portB_answers (format_of_mem_portB hi) s
    exact ⟨_, h.trans (congrArg _ (answerB_of_not_ready sigma w' hready))⟩

end Sys2Proof.Proofs.Engines

/-! PROOFS. The request channels (spec/30_encoding.md R71, R73, spec/41_sequencer_and_ports.md R119), and the stops the model
names (spec/10_state.md R26, spec/93_implementation_defined.md I13). -/

namespace Sys2Proof.Proofs.Requests

open Sys2Proof.Machine Sys2Proof.Proofs.HostAccess

/-! ### Signals between and within requests -/

theorem lanesToNat_zero64 : lanesToNat zero64.toList = 0 := by decide

theorem wordLanesToNat_zeroW : wordLanesToNat zeroW.toList = 0 := by decide

theorem bReqA_eq_zero {s : State} (h : s.bReqSignals.a = zero64) : s.bReqA = 0 := by
  rw [State.bReqA, h, lanesToNat_zero64]
  rfl

theorem bReqK_eq_zero {s : State} (h : s.bReqSignals.k = zero64) : s.bReqK = 0 := by
  rw [State.bReqK, h, lanesToNat_zero64]
  rfl

theorem bReqW_eq_zero {s : State} (h : s.bReqSignals.w = zeroW) : s.bReqW = 0 := by
  rw [State.bReqW, h, wordLanesToNat_zeroW]
  rfl

/-- Every request on port S begins with a header whose data is 0 (R71). -/
theorem header_of_encode_portS {i : Instr} {beats : List SBeat} (h : encode i = .portS beats) :
    ∃ op len last rest, beats = .header op len 0 last :: rest := by
  cases i with
  | shaInit | shaFinal | shaClear | shaUpdate => cases h; exact ⟨_, _, _, _, rfl⟩
  | _ => cases h

/-- In a request on port B the operands that the opcode does not use are 0 (R73, R119). -/
theorem unused_operands_of_encode_portB {i : Instr} {q : BReq} (h : encode i = .portB q) :
    (q.op ≠ 0x2 → q.op ≠ 0x3 → q.a = zero64) ∧ (q.op ≠ 0x2 → q.k = zero64) ∧ (q.op ≠ 0x4 → q.w = zeroW) := by
  cases i with
  | bfInit | bfClear => cases h; exact ⟨fun _ _ => rfl, fun _ => rfl, fun _ => rfl⟩
  | bfExpand => cases h; exact ⟨fun hop => absurd rfl hop, fun hop => absurd rfl hop, fun _ => rfl⟩
  | bfExpand0 => cases h; exact ⟨fun _ hop => absurd rfl hop, fun _ => rfl, fun _ => rfl⟩
  | bfEncrypt => cases h; exact ⟨fun _ _ => rfl, fun _ => rfl, fun hop => absurd rfl hop⟩
  | _ => cases h

/-- Settles O46: an empty slot drives the zero beat, and an encoded request carries zeros where its opcode uses nothing. -/
theorem unusedPortSignalsAreZero : Obligations.UnusedPortSignalsAreZero := by
  refine ⟨fun s hslot => ?_, fun s hslot => ?_, fun i beats => header_of_encode_portS, fun i q s henc hslot => ?_⟩
  · simp [State.sReqValid, State.sReqSignals, hslot]
  · have hsignals : s.bReqSignals = { op := 0, a := zero64, k := zero64, w := zeroW } := by
      simp [State.bReqSignals, hslot]
    refine ⟨by simp [State.bReqValid, hslot], ?_, bReqA_eq_zero ?_, bReqK_eq_zero ?_, bReqW_eq_zero ?_⟩ <;>
      rw [hsignals]
  · have hsignals : s.bReqSignals = q := by simp [State.bReqSignals, hslot]
    obtain ⟨ha, hk, hw⟩ := unused_operands_of_encode_portB henc
    exact ⟨fun h2 h3 => bReqA_eq_zero (hsignals ▸ ha h2 h3), fun h2 => bReqK_eq_zero (hsignals ▸ hk h2),
      fun h4 => bReqW_eq_zero (hsignals ▸ hw h4)⟩

/-! ### Stops -/

theorem decodePortS_reserved {op : BitVec 4} (hop : op = 0x0 ∨ 0x5 ≤ op.toNat) (len : BitVec 13) (d : BitVec 64)
    (last : Bool) : decodePortS [.header op len d last] = .reject (.reservedPortOp op) := by
  have hne : op ≠ 0x2 := by
    rintro rfl
    obtain h | h := hop
    · exact absurd h (by decide)
    · exact absurd h (by decide)
  rw [decodePortS, if_neg hne, if_pos hop]

theorem decodePortB_reserved {q : BReq} (hop : q.op = 0x0 ∨ 0x6 ≤ q.op.toNat) :
    decodePortB q = .reject (.reservedPortOp q.op) := by
  have hne (c : BitVec 4) (hlo : 1 ≤ c.toNat) (hhi : c.toNat < 6) : q.op ≠ c := by
    rintro rfl
    obtain h | h := hop
    · rw [h] at hlo
      exact absurd hlo (by decide)
    · omega
  rw [decodePortB, if_neg (hne 1 (by decide) (by decide)), if_neg (hne 2 (by decide) (by decide)),
    if_neg (hne 3 (by decide) (by decide)), if_neg (hne 4 (by decide) (by decide)), if_neg (hne 5 (by decide) (by decide))]

/-- Settles O54: the bound each of the three micro-steps tests, and the decoder's rejection of a reserved opcode. -/
theorem outOfBufferOperandsFaultAndReservedOpcodesAreRefused :
    Obligations.OutOfBufferOperandsFaultAndReservedOpcodesAreRefused := by
  refine fun s => ⟨fun ho hlen => if_pos ?_, fun ho hlen => if_pos ?_, fun h => if_pos h,
    fun rest e op len d last hag hacc hop => ?_, fun rest e q hag hacc hop => ?_⟩
  · simp [ho, hlen]
  · simp [ho, hlen]
  · rw [step_of_agenda_cons hag]
    simp [runEvent, answerStepS, hacc, decode, decodePortS_reserved hop]
  · rw [step_of_agenda_cons hag]
    simp [runEvent, answerStepB, hacc, decode, decodePortB_reserved hop]

end Sys2Proof.Proofs.Requests

/-! PROOFS. The buffers' memory as every operation keeps it (spec/10_state.md R26): canonical, and of buffer bytes only. -/

namespace Sys2Proof.Proofs.Buffers

open Sys2Proof.Machine
open Sys2Proof.Safety (IsBufferByte)

/-- The memory is canonical and lists bytes of the three buffers only: what `MemoryInv` says of a state's memory. -/
def BufferMemory (p : Params) (m : Memory) : Prop := Memory.wf m ∧ ∀ c ∈ m, IsBufferByte p c.1

theorem isBufferByte_pw {p : Params} {i : Nat} (h : i < p.pwMax) : IsBufferByte p (pwBase + i) := .inl (by omega)

theorem isBufferByte_salt {p : Params} {i : Nat} (h : i < p.saltMax) : IsBufferByte p (saltBase + i) :=
  .inr (.inl (by omega))

theorem isBufferByte_out {p : Params} {i : Nat} (h : i < outBytes) : IsBufferByte p (outBase + i) :=
  .inr (.inr (by omega))

theorem bufferMemory_nil (p : Params) : BufferMemory p [] := ⟨reset_mem_wf p, nofun⟩

theorem BufferMemory.memWrite {p : Params} {m : Memory} (hm : BufferMemory p m) {x : Nat} (hx : IsBufferByte p x)
    (v : Byte) : BufferMemory p (memWrite m x v) := by
  refine ⟨memWrite_wf hm.1 x v, fun c hc => ?_⟩
  obtain h | h := fst_of_mem_memWrite hc
  · exact h ▸ hx
  · exact hm.2 c h

theorem BufferMemory.memZero {p : Params} {m : Memory} (hm : BufferMemory p m) (lo hi : Nat) :
    BufferMemory p (memZero m lo hi) :=
  ⟨memZero_wf hm.1 lo hi, fun c hc => hm.2 c (List.mem_of_mem_filter hc)⟩

theorem BufferMemory.writeLane {p : Params} {m : Memory} (hm : BufferMemory p m) {base cap : Nat}
    (hbuf : ∀ i < cap, IsBufferByte p (base + i)) (i : Nat) (b : Byte) : BufferMemory p (writeLane base cap i b m) := by
  unfold Machine.writeLane
  split
  · next hi => exact hm.memWrite (hbuf i hi) b
  · exact hm

theorem BufferMemory.writeWindow {p : Params} {m : Memory} (hm : BufferMemory p m) {base cap : Nat}
    (hbuf : ∀ i < cap, IsBufferByte p (base + i)) (k : Nat) (v : Word) : BufferMemory p (writeWindow base cap k v m) :=
  (((hm.writeLane hbuf ..).writeLane hbuf ..).writeLane hbuf ..).writeLane hbuf ..

theorem BufferMemory.memScatter {p : Params} {m : Memory} (hm : BufferMemory p m) {a stride : Nat} {bs : List Byte}
    (hbuf : ∀ i < bs.length, IsBufferByte p (a + i * stride)) : BufferMemory p (memScatter m a stride bs) := by
  induction bs generalizing m a with
  | nil => exact hm
  | cons b bs ih =>
    have hfirst : IsBufferByte p a := by simpa using hbuf 0 (by simp)
    refine ih (hm.memWrite hfirst b) fun i hi => ?_
    have hnext : a + stride + i * stride = a + (i + 1) * stride := by rw [Nat.succ_mul]; omega
    rw [hnext]
    exact hbuf (i + 1) (by simpa using hi)

theorem BufferMemory.zeroOut {s : State} (hm : BufferMemory s.params s.mem) : BufferMemory s.params s.zeroOut.mem :=
  hm.memZero ..

theorem BufferMemory.zeroInputs {s : State} (hm : BufferMemory s.params s.mem) : BufferMemory s.params s.zeroInputs.mem :=
  (hm.memZero ..).memZero ..

/-! ### The positions of DIST -/

/-- Every position that DIST counts is below n (R167). -/
theorem position_lt_of_lt_placed {stride c n k i j : Nat} (h : j < placed stride c n k i) : (i + j) * stride + c < n := by
  induction k generalizing i j with
  | zero => cases h
  | succ k ih =>
    rw [placed] at h
    split at h
    · cases h
    · next hn =>
      cases j with
      | zero => simpa using hn
      | succ j =>
        have hlater := ih (Nat.lt_of_succ_lt_succ h)
        rwa [Nat.succ_add_eq_add_succ] at hlater

/-- Every byte DIST places goes to an index below OUT_LEN (R167), in every state. -/
theorem index_lt_outLen {s : State} {i : Nat} (h : i < s.distCount) :
    (s.blkCnt - 1).toNat + i * s.stride.toNat < s.outLen.toNat := by
  have hpos := position_lt_of_lt_placed h
  rwa [Nat.zero_add, Nat.add_comm] at hpos

theorem lt_distCount_of_lt_length {s : State} {i : Nat} (h : i < (s.block.toList.take s.distCount).length) :
    i < s.distCount :=
  Nat.lt_of_lt_of_le h (List.length_take_le _ _)

/-- What DIST writes is in OUTBUF (R167). -/
theorem BufferMemory.distMem {s : State} (hm : BufferMemory s.params s.mem) (ho : s.outLen.toNat ≤ 1024) :
    BufferMemory s.params (Driver.distMem s) := by
  refine hm.memScatter fun i hi => ?_
  have hidx := index_lt_outLen (lt_distCount_of_lt_length hi)
  rw [Nat.add_assoc]
  exact isBufferByte_out (by unfold outBytes; omega)

/-- DIST leaves OUTBUF at OUT_LEN and above as it was (R47, R167). -/
theorem memRead_distMem_of_outLen_le {s : State} {i : Nat} (h : s.outLen.toNat ≤ i) :
    memRead (Driver.distMem s) (outBase + i) = memRead s.mem (outBase + i) := by
  refine memRead_memScatter_other _ _ _ fun j hj => ?_
  have hidx := index_lt_outLen (lt_distCount_of_lt_length hj)
  omega

end Sys2Proof.Proofs.Buffers

/-! PROOFS. What one step of each agent can do, said once (spec/10_state.md R10): the host while busy and while idle
(spec/40_host_commands.md R81 to R92), and the sequencer (spec/41_sequencer_and_ports.md R100 to R104). Every invariant is
proved from these. -/

namespace Sys2Proof.Proofs.Moves

open Sys2Proof.Machine Sys2Proof.Proofs.Frames Sys2Proof.Proofs.HostReads Sys2Proof.Proofs.CommandWords
open Sys2Proof.Proofs.Check Sys2Proof.Proofs.Driver Sys2Proof.Proofs.PortSVisits Sys2Proof.Proofs.Buffers
open Sys2Proof.Proofs.Requests
open Sys2Proof.Laws.WordFormat (Format.ofInstr)
open Sys2Proof.Safety

/-! ### The host -/

/-- DONE and ERR are 1 in `t` only if they are in `s`: no host access sets either (R85, R88, R90). -/
structure FlagsFall (s t : State) : Prop where
  done : t.done = true → s.done = true := by exact id
  err : t.err = true → s.err = true := by exact id

/-- From `s` to `t` nothing but what the host may write while idle differs: the configuration, CTRL, the flags, the buffers
and the bus response. STATE, ABORTP and ERRCODE stay. -/
def ConfigFrame (s t : State) : Prop :=
  t = { s with
    pwLen := t.pwLen, saltLen := t.saltLen, outLen := t.outLen, rounds := t.rounds, ieDone := t.ieDone, ieErr := t.ieErr
    done := t.done, err := t.err, cmdErr := t.cmdErr, wErr := t.wErr, mem := t.mem, busRsp := t.busRsp }

theorem st_of_configFrame {s t : State} (h : ConfigFrame s t) : t.st = s.st := by
  unfold ConfigFrame at h
  rw [h]

theorem errCode_of_configFrame {s t : State} (h : ConfigFrame s t) : t.errCode = s.errCode := by
  unfold ConfigFrame at h
  rw [h]

/-- START from IDLE, as a write to CMD executes it (R88). -/
def startState (s : State) : State :=
  { s.zeroOut with
    busRsp := .written, done := false, err := false, abortP := false, errCode := 0, st := .check }

/-- All that a host access can do to the block. -/
inductive HostMove (s : State) : State → Prop
  | busy {t : State} (hb : s.st ≠ .idle) (hf : HostFrame s t) (hfall : FlagsFall s t) : HostMove s t
  | idle {t : State} (hi : s.st = .idle) (hf : ConfigFrame s t) (hfall : FlagsFall s t)
      (hm : BufferMemory s.params s.mem → BufferMemory s.params t.mem) : HostMove s t
  | start (hi : s.st = .idle) : HostMove s (startState s)

/-- An access that changes nothing but the bus response and flags that it only lowers. -/
theorem HostMove.of_flags {s t : State}
    (h : t = { s with
      ieDone := t.ieDone, ieErr := t.ieErr, done := t.done, err := t.err, cmdErr := t.cmdErr, wErr := t.wErr
      busRsp := t.busRsp }) (hfall : FlagsFall s t) : HostMove s t := by
  by_cases hi : s.st = .idle
  · refine .idle hi ?_ hfall fun hm => ?_
    · unfold ConfigFrame
      rw [h]
    · rw [h]
      exact hm
  · refine .busy hi ?_ hfall
    unfold HostFrame
    rw [h]

/-- A write that is dropped while busy and held while idle (R83, R91). -/
theorem HostMove.of_held {s u t : State} {o : Host.Outcome State Fault Refusal} (hidle : ConfigFrame s u)
    (hfall : FlagsFall s u) (hm : BufferMemory s.params s.mem → BufferMemory s.params u.mem)
    (ho : o = if s.busy then .next s.ack.dropWrite else .next u) (h : o = .next t) : HostMove s t := by
  rw [ho] at h
  split at h
  · cases h
    exact .of_flags rfl {}
  · next hb =>
    cases h
    exact .idle (by simpa [State.busy] using hb) hidle hfall hm

/-- A command word is illegal, does nothing, starts a run, pends an abort, or wipes the buffers (R63, R87 to R90). -/
theorem exec_wr32Cmd_move {w : Word} {s t : State} (h : exec (.wr32Cmd w) s = .next t) : HostMove s t := by
  rw [exec_wr32Cmd, decodeCmd_eq] at h
  by_cases hi : s.st = .idle
  · have hidle : ¬s.ack.busy = true := not_busy_of_idle hi
    split_ifs at h
    · cases h; exact .of_flags rfl {}
    · obtain rfl := Host.Outcome.next.inj ((if_neg hidle).symm.trans h)
      exact .start hi
    · obtain rfl := Host.Outcome.next.inj ((if_neg hidle).symm.trans h)
      exact .of_flags rfl {}
    · obtain rfl := Host.Outcome.next.inj ((if_neg hidle).symm.trans h)
      exact .idle hi rfl { done := nofun } fun hm => BufferMemory.zeroInputs (s := s.ack.zeroOut) (BufferMemory.zeroOut hm)
    · cases h; exact .of_flags rfl {}
  · have hbusy : s.ack.busy = true := busy_of_ne_idle hi
    split_ifs at h
    · cases h; exact .of_flags rfl {}
    · obtain rfl := Host.Outcome.next.inj ((if_pos hbusy).symm.trans h)
      exact .of_flags rfl {}
    · obtain rfl := Host.Outcome.next.inj ((if_pos hbusy).symm.trans h)
      exact .busy hi rfl {}
    · obtain rfl := Host.Outcome.next.inj ((if_pos hbusy).symm.trans h)
      exact .of_flags rfl {}
    · cases h; exact .of_flags rfl {}

theorem exec_hostbus_move {i : Instr} (hi : Format.ofInstr i = .hostbus15) {s t : State} (h : exec i s = .next t) :
    HostMove s t := by
  cases i with
  | rd32 | wr32 | wr32Ctrl => cases h; exact .of_flags rfl {}
  | wr32Status v =>
    cases h
    exact .of_flags rfl ⟨fun hd => (Bool.and_eq_true_iff.1 hd).1, fun he => (Bool.and_eq_true_iff.1 he).1⟩
  | wr32Cmd w => exact exec_wr32Cmd_move h
  | wr32PwLen v => exact .of_held (u := { s.ack with pwLen := v }) rfl {} id rfl h
  | wr32SaltLen v => exact .of_held (u := { s.ack with saltLen := v }) rfl {} id rfl h
  | wr32OutLen v => exact .of_held (u := { s.ack with outLen := v }) rfl {} id rfl h
  | wr32Rounds v => exact .of_held (u := { s.ack with rounds := v }) rfl {} id rfl h
  | wr32Pwbuf k v =>
    exact .of_held (u := { s.ack with mem := writeWindow pwBase s.params.pwMax k.toNat v s.mem }) rfl {}
      (fun hm => hm.writeWindow (fun _ => isBufferByte_pw) ..) rfl h
  | wr32Saltbuf k v =>
    exact .of_held (u := { s.ack with mem := writeWindow saltBase s.params.saltMax k.toNat v s.mem }) rfl {}
      (fun hm => hm.writeWindow (fun _ => isBufferByte_salt) ..) rfl h
  | _ => cases hi

/-- What a host step can do, whatever the access (R43, R80). -/
theorem hostStep_move {a : BusAccess} {s t : State} (h : hostStep a s = .next t) : HostMove s t := by
  obtain hs | hs | ⟨i, -, -, hd, hs⟩ := hostStep_cases a s <;> rw [hs] at h
  · cases h; exact .of_flags rfl {}
  · cases h; exact .of_flags rfl {}
  · exact exec_hostbus_move (decode_format hd) h

/-! ### Port visits -/

/-- What the completion of a port S state does with the answer's data, STATE included (R126 to R128, R160 to R162, R164 to
R166, R170, R194). -/
def afterS : SeqState → Bytes64 → State → State
  | .phInit, _, t => { t with st := .phUpd }
  | .phUpd, _, t => { t with st := .phFin }
  | .phFin, d, t => { t with pd := d, st := .ssInit }
  | .ssInit, _, t => { t with st := .ssUpd }
  | .ssUpd, _, t => { t with st := .ssFin }
  | .ssFin, d, t => { t with sd := d, st := .bhInit }
  | .rhInit, _, t => { t with st := .rhUpd }
  | .rhUpd, _, t => { t with st := .rhFin }
  | .rhFin, d, t => { t with sd := d, st := .bhInit }
  | .finSclr, _, t => { t with st := .finZero }
  | .errSclr, _, t => { t with st := .errBclr }
  | _, _, t => t

/-- What the completion of a port B state does with the answer's words, STATE included (R141 to R144, R146, R148, R195). -/
def afterB : SeqState → Words8 → State → State
  | .bhInit, _, t => { t with st := .bhExp }
  | .bhExp, _, t => { t with iter := 0, st := .bhE0s }
  | .bhE0s, _, t => { t with st := .bhE0p }
  | .bhE0p, _, t => if t.iter = 63 then { t with iter := 0, st := .bhLdc } else { t with iter := t.iter + 1, st := .bhE0s }
  | .bhEnc, w, t =>
    if t.iter = 63 then { t with cw := w, iter := 0, st := .bhSer } else { t with cw := w, iter := t.iter + 1, st := .bhEnc }
  | .bhClr, _, t => { t with st := .acc }
  | .errBclr, _, t => { t with st := .errZero }
  | _, _, t => t

/-- The operand that the state's request carries is inside its buffer (R26, R127, R161). -/
def OperandFits (s : State) : Prop :=
  (s.st = .phUpd → s.pwLen.toNat ≤ s.params.pwMax) ∧ (s.st = .ssUpd → s.saltLen.toNat ≤ s.params.saltMax)

/-- Where the micro-step does not stop, its operand fits at the issue. -/
theorem operandFits_of_next {s t : State} (h : exec s.st.instr s = .next t) (ho : s.outstanding = false) :
    OperandFits s := by
  obtain ⟨hpw, hsalt, -⟩ := outOfBufferOperandsFaultAndReservedOpcodesAreRefused s
  refine ⟨fun hst => le_of_not_gt fun hlt => ?_, fun hst => le_of_not_gt fun hlt => ?_⟩
  · rw [hst] at h
    exact absurd (h.symm.trans (hpw ho hlt)) nofun
  · rw [hst] at h
    exact absurd (h.symm.trans (hsalt ho hlt)) nofun

/-- The micro-step of a port S state is the visit with the state's own request. -/
theorem exec_portS {s : State} (hp : s.st.port = .portS) (hok : s.outstanding = false → OperandFits s) :
    ∃ i beats, requestOf s = some i ∧ encode i = .portS beats ∧
      exec s.st.instr s = .next (s.visitS s.st beats (afterS s.st)) := by
  unfold OperandFits at hok
  unfold requestOf
  cases hst : s.st with
  | phUpd => exact ⟨_, _, rfl, rfl, exec_statePhUpd fun ho => (hok ho).1 hst⟩
  | ssUpd => exact ⟨_, _, rfl, rfl, exec_stateSsUpd fun ho => (hok ho).2 hst⟩
  | phInit | phFin | ssInit | ssFin | rhInit | rhUpd | rhFin | finSclr | errSclr => exact ⟨_, _, rfl, rfl, rfl⟩
  | _ => rw [hst] at hp; cases hp

/-- The micro-step of a port B state is the visit with the state's own request. -/
theorem exec_portB {s : State} (hp : s.st.port = .portB) :
    ∃ i q, requestOf s = some i ∧ encode i = .portB q ∧ exec s.st.instr s = .next (s.visitB s.st q (afterB s.st)) := by
  unfold requestOf
  cases hst : s.st with
  | bhInit | bhExp | bhE0s | bhE0p | bhEnc | bhClr | errBclr => exact ⟨_, _, rfl, rfl, rfl⟩
  | _ => rw [hst] at hp; cases hp

/-- `u` is `s` with the response of its outstanding request taken out of the slot (R102, R104). -/
inductive TakesAnswer (s : State) : State → Prop
  | portS (ho : s.outstanding = true) (hp : s.st.port = .portS) (hr : s.sRsp ≠ none) :
      TakesAnswer s { s with sRsp := none, outstanding := false }
  | portB (ho : s.outstanding = true) (hp : s.st.port = .portB) (hr : s.bRsp ≠ none) :
      TakesAnswer s { s with bRsp := none, outstanding := false }

/-- Taking an answer writes the response slots and OUTSTANDING alone. -/
theorem TakesAnswer.frame {s u : State} (h : TakesAnswer s u) :
    u = { s with sRsp := u.sRsp, bRsp := u.bRsp, outstanding := u.outstanding } := by
  cases h <;> rfl

theorem TakesAnswer.st_eq {s u : State} (h : TakesAnswer s u) : u.st = s.st := by rw [h.frame]

theorem TakesAnswer.errCode_eq {s u : State} (h : TakesAnswer s u) : u.errCode = s.errCode := by rw [h.frame]

theorem TakesAnswer.outLen_eq {s u : State} (h : TakesAnswer s u) : u.outLen = s.outLen := by rw [h.frame]

theorem TakesAnswer.cw_eq {s u : State} (h : TakesAnswer s u) : u.cw = s.cw := by rw [h.frame]

theorem TakesAnswer.mem_eq {s u : State} (h : TakesAnswer s u) : u.mem = s.mem := by rw [h.frame]

theorem TakesAnswer.port_ne_none {s u : State} (h : TakesAnswer s u) : s.st.port ≠ .none := by
  cases h with
  | portS _ hp _ | portB _ hp _ => rw [hp]; decide

/-- Only a busy block has a request to answer (R70). -/
theorem TakesAnswer.ne_idle {s u : State} (h : TakesAnswer s u) : s.st ≠ .idle := fun hi =>
  h.port_ne_none (by rw [hi]; rfl)

/-- What every completion of a visit in `u` keeps: it writes STATE, PD, SD, ITER and CW only, stays in the run and on its
side of the error path, and the last two states of a run follow only each other. -/
structure Completes (u t : State) : Prop where
  frame : t = { u with st := t.st, pd := t.pd, sd := t.sd, iter := t.iter, cw := t.cw }
  busy : t.st ≠ .idle ∧ t.st ≠ .check
  path : SeqState.onErrorPath t.st = SeqState.onErrorPath u.st
  final : (t.st = .finSclr ∨ t.st = .finZero) ↔ (u.st = .finSclr ∨ u.st = .finZero)
  word : t.cw = u.cw ∧ u.st ≠ .bhEnc ∧ u.st ≠ .bhSer ∨ t.st = .bhEnc ∨ t.st = .bhSer

section
variable {u t : State} (h : Completes u t)
include h

theorem Completes.done_eq : t.done = u.done := by rw [h.frame]

theorem Completes.err_eq : t.err = u.err := by rw [h.frame]

theorem Completes.errCode_eq : t.errCode = u.errCode := by rw [h.frame]

theorem Completes.outLen_eq : t.outLen = u.outLen := by rw [h.frame]

theorem Completes.mem_eq : t.mem = u.mem := by rw [h.frame]

end

theorem afterS_completes {u : State} (hp : u.st.port = .portS) (d : Bytes64) : Completes u (afterS u.st d u) := by
  cases hst : u.st with
  | phInit | phUpd | phFin | ssInit | ssUpd | ssFin | rhInit | rhUpd | rhFin | finSclr | errSclr =>
    constructor <;> simp [afterS, hst, SeqState.onErrorPath]
  | _ => rw [hst] at hp; cases hp

theorem afterB_completes {u : State} (hp : u.st.port = .portB) (w : Words8) : Completes u (afterB u.st w u) := by
  cases hst : u.st with
  | bhInit | bhExp | bhE0s | bhClr | errBclr => constructor <;> simp [afterB, hst, SeqState.onErrorPath]
  | bhE0p | bhEnc =>
    simp only [afterB]
    split <;> constructor <;> simp [hst, SeqState.onErrorPath]
  | _ => rw [hst] at hp; cases hp

/-! ### The sequencer -/

/-- All that a step of the sequencer can do. -/
inductive SeqMove (s : State) : State → Prop
  | stay : SeqMove s s
  | abort (h : s.abortDue = true) : SeqMove s s.takeAbort
  | issueS {i : Instr} {beats : List SBeat} (ho : s.outstanding = false) (hreq : requestOf s = some i)
      (henc : encode i = .portS beats) : SeqMove s { s with sReq := beats, outstanding := true }
  | issueB {i : Instr} {q : BReq} (ho : s.outstanding = false) (hreq : requestOf s = some i)
      (henc : encode i = .portB q) : SeqMove s { s with bReq := some q, outstanding := true }
  | fault {e : ErrKind} {u : State} (hu : TakesAnswer s u) (he : e ≠ .invalidParameter)
      (hpath : SeqState.onErrorPath s.st = false) : SeqMove s (u.raiseFault e 0 s.st)
  | complete {u t : State} (hu : TakesAnswer s u) (ht : Completes u t) : SeqMove s t
  | checkFail (hst : s.st = .check) : SeqMove s (s.raiseFault .invalidParameter s.checkInfo .check)
  | checkPass (hst : s.st = .check) (hlegal : ParamsLegal s) :
      SeqMove s { s with
        stride := strideOf s.outLen, amt := amtOf s.outLen, remain := s.outLen.setWidth 11, blkCnt := 1, rndCnt := 1
        iter := 0, st := .phInit }
  | loadConst (hst : s.st = .bhLdc) : SeqMove s { s with cw := constW, st := .bhEnc }
  | serialise (hst : s.st = .bhSer) : SeqMove s { s with prev := serialise s.cw, cw := zeroW, st := .bhClr }
  | nextRound (hst : s.st = .acc) (h : s.rndCnt.toNat < s.rounds.toNat) :
      SeqMove s { s with block := foldedBlock s, rndCnt := s.rndCnt + 1, st := .rhInit }
  | lastRound (hst : s.st = .acc) : SeqMove s { s with block := foldedBlock s, st := .dist }
  | lastBlock (hst : s.st = .dist) (ho : s.outLen.toNat ≤ 1024) (h : s.remain.toNat - s.distCount = 0) :
      SeqMove s { s with
        mem := distMem s, remain := BitVec.ofNat 11 (s.remain.toNat - s.distCount), st := .finSclr }
  | nextBlock (hst : s.st = .dist) (ho : s.outLen.toNat ≤ 1024) (h : s.remain.toNat - s.distCount ≠ 0) :
      SeqMove s { s with
        mem := distMem s, remain := BitVec.ofNat 11 (s.remain.toNat - s.distCount), blkCnt := s.blkCnt + 1, rndCnt := 1
        st := .ssInit }
  | finish (hst : s.st = .finZero) : SeqMove s { s.zeroSecrets with done := true, abortP := false, st := .idle }
  | errorEnd (hst : s.st = .errZero) : SeqMove s { s.zeroSecrets.zeroOut with err := true, abortP := false, st := .idle }

theorem visitS_move {s : State} (hp : s.st.port = .portS) {i : Instr} {beats : List SBeat} (hreq : requestOf s = some i)
    (henc : encode i = .portS beats) : SeqMove s (s.visitS s.st beats (afterS s.st)) := by
  obtain ⟨ho, h⟩ | ⟨-, -, h⟩ | ⟨r, ho, hr, -, h⟩ | ⟨r, ho, hr, -, hpath, h⟩ := s.visitS_cases s.st beats (afterS s.st) <;>
    rw [h]
  · obtain ⟨-, hi⟩ | ⟨-, hi⟩ := s.issueS_cases beats <;> rw [hi]
    · exact .issueS ho hreq henc
    · exact .stay
  · exact .stay
  · exact .complete (.portS ho hp (by simp [hr]))
      (afterS_completes (u := { s with sRsp := none, outstanding := false }) hp r.data)
  · exact .fault (.portS ho hp (by simp [hr])) (by decide) hpath

theorem visitB_move {s : State} (hp : s.st.port = .portB) {i : Instr} {q : BReq} (hreq : requestOf s = some i)
    (henc : encode i = .portB q) : SeqMove s (s.visitB s.st q (afterB s.st)) := by
  obtain ⟨ho, h⟩ | ⟨-, -, h⟩ | ⟨r, ho, hr, -, h⟩ | ⟨r, ho, hr, -, hpath, h⟩ := s.visitB_cases s.st q (afterB s.st) <;>
    rw [h]
  · obtain ⟨-, hi⟩ | ⟨-, hi⟩ := s.issueB_cases q <;> rw [hi]
    · exact .issueB ho hreq henc
    · exact .stay
  · exact .stay
  · exact .complete (.portB ho hp (by simp [hr]))
      (afterB_completes (u := { s with bRsp := none, outstanding := false }) hp r.w)
  · exact .fault (.portB ho hp (by simp [hr])) (by decide) hpath

theorem exec_stateCheck_move {s t : State} (hst : s.st = .check) (h : exec .stateCheck s = .next t) : SeqMove s t := by
  by_cases hlegal : ParamsLegal s
  · obtain rfl := Host.Outcome.next.inj ((exec_stateCheck_of_paramsLegal hlegal).symm.trans h)
    exact .checkPass hst hlegal
  · obtain rfl := Host.Outcome.next.inj ((exec_stateCheck_of_not_paramsLegal hlegal).symm.trans h)
    exact .checkFail hst

theorem exec_stateAcc_move {s t : State} (hst : s.st = .acc) (h : exec .stateAcc s = .next t) : SeqMove s t := by
  by_cases hlt : s.rndCnt.toNat < s.rounds.toNat
  · obtain rfl := Host.Outcome.next.inj ((exec_stateAcc_of_lt hlt).symm.trans h)
    exact .nextRound hst hlt
  · obtain rfl := Host.Outcome.next.inj ((exec_stateAcc_of_le (le_of_not_gt hlt)).symm.trans h)
    exact .lastRound hst

/-- Where DIST does not stop, AMT and OUT_LEN are in their ranges (R22, R167). -/
theorem dist_ranges_of_next {s t : State} (h : exec .stateDist s = .next t) :
    s.amt.toNat ≤ 32 ∧ s.outLen.toNat ≤ 1024 := by
  obtain ⟨-, -, hstop, -⟩ := outOfBufferOperandsFaultAndReservedOpcodesAreRefused s
  have hrange : ¬(32 < s.amt.toNat ∨ 1024 < s.outLen.toNat) := fun hout => absurd (h.symm.trans (hstop hout)) nofun
  omega

theorem exec_stateDist_move {s t : State} (hst : s.st = .dist) (h : exec .stateDist s = .next t) : SeqMove s t := by
  obtain ⟨ha, ho⟩ := dist_ranges_of_next h
  rw [exec_stateDist_eq_ite ha ho] at h
  split at h
  · next hw => cases h; exact .lastBlock hst ho hw
  · next hw => cases h; exact .nextBlock hst ho hw

/-- The micro-step of a state that issues no request is one of the internal visits. -/
theorem exec_internal_move {s t : State} (hp : s.st.port = .none) (h : exec s.st.instr s = .next t) : SeqMove s t := by
  cases hst : s.st with
  | idle => rw [hst] at h; cases h; exact .stay
  | check => rw [hst] at h; exact exec_stateCheck_move hst h
  | bhLdc => rw [hst] at h; cases h; exact .loadConst hst
  | bhSer => rw [hst] at h; cases h; exact .serialise hst
  | acc => rw [hst] at h; exact exec_stateAcc_move hst h
  | dist => rw [hst] at h; exact exec_stateDist_move hst h
  | finZero => rw [hst] at h; cases h; exact .finish hst
  | errZero => rw [hst] at h; cases h; exact .errorEnd hst
  | _ => rw [hst] at hp; cases hp

/-- What a step of the sequencer can do (R100). -/
theorem seqStep_move {s t : State} (h : seqStep s = .next t) : SeqMove s t := by
  obtain ⟨hdue, hs⟩ | ⟨-, hs⟩ := seqStep_cases s <;> rw [hs] at h
  · cases h; exact .abort hdue
  · cases hp : s.st.port with
    | none => exact exec_internal_move hp h
    | portS =>
      obtain ⟨i, beats, hreq, henc, hexec⟩ := exec_portS hp (operandFits_of_next h)
      obtain rfl := Host.Outcome.next.inj (hexec.symm.trans h)
      exact visitS_move hp hreq henc
    | portB =>
      obtain ⟨i, q, hreq, henc, hexec⟩ := exec_portB hp
      obtain rfl := Host.Outcome.next.inj (hexec.symm.trans h)
      exact visitB_move hp hreq henc

end Sys2Proof.Proofs.Moves

/-! PROOFS. One step of any agent as a move (spec/10_state.md R10, R52), and the induction step of an invariant, packaged once:
what each agent keeps, every step keeps. -/

namespace Sys2Proof.Proofs.Agents

open Sys2Proof.Machine Sys2Proof.Proofs.Frames Sys2Proof.Proofs.Engines Sys2Proof.Proofs.Moves

/-- All that a step of an engine can do: accept a request, or answer the one it has accepted (R101, R103, R106 to R108). -/
inductive EngineMove (s : State) : State → Prop
  | stay : EngineMove s s
  | acceptS (hreq : s.sReq ≠ []) (hacc : s.sAcc = []) : EngineMove s { s with sAcc := s.sReq, sReq := [] }
  | acceptB {q : BReq} (hreq : s.bReq = some q) (hacc : s.bAcc = none) :
      EngineMove s { s with bAcc := some q, bReq := none }
  | answerS (err : Bool) (mu : Mu) (d : Bytes64) (hacc : s.sAcc ≠ []) :
      EngineMove s (State.answerS mu d { s with errDraw := err })
  | answerB (err : Bool) (sigma : Sigma) (w : Words8) (hacc : s.bAcc ≠ none) :
      EngineMove s (State.answerB sigma w { s with errDraw := err })

theorem EngineMove.frame {s t : State} (h : EngineMove s t) : EngineFrame s t := by
  cases h with
  | stay | acceptS | acceptB => rfl
  | answerS err mu d => exact (answerS_frame ..).of_errDraw
  | answerB err sigma w => exact (answerB_frame ..).of_errDraw

theorem acceptS_move (s : State) : EngineMove s s.acceptS := by
  obtain ⟨hreq, hacc, h⟩ | h := s.acceptS_cases <;> rw [h]
  · exact .acceptS hreq hacc
  · exact .stay

theorem acceptB_move (s : State) : EngineMove s s.acceptB := by
  obtain ⟨q, hreq, hacc, h⟩ | h := s.acceptB_cases <;> rw [h]
  · exact .acceptB hreq hacc
  · exact .stay

theorem answerStepS_move {err : Bool} {s t : State} (h : answerStepS err s = .next t) : EngineMove s t := by
  obtain ⟨-, hs⟩ | ⟨i, hacc, hd, hs⟩ | ⟨r, -, -, hs⟩ := answerStepS_cases err s <;> rw [hs] at h
  · cases h; exact .stay
  · obtain ⟨mu, d, hans⟩ := exec_portS_answers (decode_format hd) { s with errDraw := err }
    rw [hans] at h; cases h
    exact .answerS err mu d hacc
  · cases h

theorem answerStepB_move {err : Bool} {s t : State} (h : answerStepB err s = .next t) : EngineMove s t := by
  obtain ⟨-, hs⟩ | ⟨q, i, hacc, hd, hs⟩ | ⟨q, r, -, -, hs⟩ := answerStepB_cases err s <;> rw [hs] at h
  · cases h; exact .stay
  · obtain ⟨sigma, w, hans⟩ := exec_portB_answers (decode_format hd) { s with errDraw := err }
    rw [hans] at h; cases h
    exact .answerB err sigma w (by simp [hacc])
  · cases h

/-- All that a step of one of the four agents can do. -/
inductive AgentMove (s t : State) : Prop
  | host (h : HostMove s t)
  | seq (h : SeqMove s t)
  | engine (h : EngineMove s t)

/-- An event other than the reset is a step of an agent (R10). -/
theorem runEvent_move {e : Event} {s t : State} (he : e ≠ .rst) (h : runEvent e s = .next t) : AgentMove s t := by
  cases e with
  | host a => exact .host (hostStep_move h)
  | seq => exact .seq (seqStep_move h)
  | acceptS => cases h; exact .engine (acceptS_move s)
  | answerS err => exact .engine (answerStepS_move h)
  | acceptB => cases h; exact .engine (acceptB_move s)
  | answerB err => exact .engine (answerStepB_move h)
  | rst => exact absurd rfl he

/-- A step other than the reset is an agent's, from the state with the event taken off the agenda. -/
theorem step_move {s t : State} (hrst : s.takeEvent.1 ≠ .rst) (h : step s = .next t) : AgentMove s.takeEvent.2 t :=
  runEvent_move hrst h

/-- Taking the event off changes the agenda and the count of drawn values alone. -/
theorem takeEvent_eq (s : State) :
    s.takeEvent.2 = { s with agenda := s.takeEvent.2.agenda, drawn := s.takeEvent.2.drawn } := by
  obtain ⟨e, rest, -, h⟩ | ⟨-, h⟩ := s.takeEvent_cases <;> rw [h]

/-- What is kept by each agent, by the reset and by taking an event is kept by every step. -/
theorem step_keeps {I : State → Prop} (htake : ∀ s agenda drawn, I s → I { s with agenda := agenda, drawn := drawn })
    (hhost : ∀ s t, I s → HostMove s t → I t) (hseq : ∀ s t, I s → SeqMove s t → I t)
    (hengine : ∀ s t, I s → EngineMove s t → I t) (hreset : ∀ s : State, I s.resetBlock) {s t : State} (hs : I s)
    (h : step s = .next t) : I t := by
  have hu : I s.takeEvent.2 := by
    rw [takeEvent_eq]
    exact htake _ _ _ hs
  by_cases he : s.takeEvent.1 = .rst
  · obtain rfl : s.takeEvent.2.resetBlock = t := by
      rw [step, he] at h
      exact Host.Outcome.next.inj h
    exact hreset _
  · cases step_move he h with
    | host hm => exact hhost _ _ hu hm
    | seq hm => exact hseq _ _ hu hm
    | engine hm => exact hengine _ _ hu hm

end Sys2Proof.Proofs.Agents

/-! PROOFS. The memory's invariant (spec/10_state.md R26). -/

namespace Sys2Proof.Proofs.MemoryInvariant

open Sys2Proof.Machine Sys2Proof.Proofs.Frames Sys2Proof.Proofs.Buffers Sys2Proof.Proofs.Moves Sys2Proof.Proofs.Agents
open Sys2Proof.Safety (MemoryInv)

theorem memoryInv_iff (s : State) : MemoryInv s ↔ BufferMemory s.params s.mem := Iff.rfl

theorem memoryInv_of_host {s t : State} (hs : MemoryInv s) (h : HostMove s t) : MemoryInv t := by
  cases h with
  | busy hb hf _ => rw [hf]; exact hs
  | idle hi hf _ hm =>
    have hmem := hm hs
    unfold ConfigFrame at hf
    rw [hf]
    exact hmem
  | start hi => exact BufferMemory.zeroOut hs

theorem memoryInv_of_seq {s t : State} (hs : MemoryInv s) (h : SeqMove s t) : MemoryInv t := by
  cases h with
  | stay | abort | issueS | issueB | checkFail | checkPass | loadConst | serialise | nextRound | lastRound => exact hs
  | fault hu _ _ => rw [hu.frame]; exact hs
  | complete hu ht => rw [ht.frame, hu.frame]; exact hs
  | lastBlock _ ho _ | nextBlock _ ho _ => exact BufferMemory.distMem hs ho
  | finish => exact BufferMemory.zeroInputs hs
  | errorEnd => exact BufferMemory.zeroOut (s := s.zeroSecrets) (BufferMemory.zeroInputs hs)

theorem memoryInv_of_engine {s t : State} (hs : MemoryInv s) (h : EngineMove s t) : MemoryInv t := by
  rw [h.frame]
  exact hs

/-- Settles O47: the only writes are those of the windows, of DIST and of the zeroisations, each inside its buffer. -/
theorem stepKeepsTheMemoryCanonical : Obligations.StepKeepsTheMemoryCanonical := fun _ _ =>
  step_keeps (fun _ _ _ h => h) (fun _ _ => memoryInv_of_host) (fun _ _ => memoryInv_of_seq)
    (fun _ _ => memoryInv_of_engine) fun s => bufferMemory_nil s.params

end Sys2Proof.Proofs.MemoryInvariant

/-! PROOFS. The port discipline (spec/10_state.md R21, spec/41_sequencer_and_ports.md R105): at most one request is outstanding,
the one the current state issues, and it is in exactly one place. -/

namespace Sys2Proof.Proofs.PortInvariant

open Sys2Proof.Machine Sys2Proof.Proofs.Frames Sys2Proof.Proofs.Engines Sys2Proof.Proofs.Requests Sys2Proof.Proofs.Moves
open Sys2Proof.Proofs.Agents Sys2Proof.Proofs.Steps
open Sys2Proof.Safety

/-! ### Where a request is -/

/-- A request of port S is in the slot, accepted, or answered. -/
def PlacedS (beats : List SBeat) (s : State) : Prop :=
  (s.sReq = beats ∧ s.sAcc = [] ∧ s.sRsp = none) ∨ (s.sReq = [] ∧ s.sAcc = beats ∧ s.sRsp = none) ∨
    (s.sReq = [] ∧ s.sAcc = [] ∧ s.sRsp ≠ none)

/-- A request of port B is in the slot, accepted, or answered. -/
def PlacedB (q : BReq) (s : State) : Prop :=
  (s.bReq = some q ∧ s.bAcc = none ∧ s.bRsp = none) ∨ (s.bReq = none ∧ s.bAcc = some q ∧ s.bRsp = none) ∨
    (s.bReq = none ∧ s.bAcc = none ∧ s.bRsp ≠ none)

/-- The request of the current port S state is outstanding, and port B is empty. -/
structure AwaitsS (s : State) : Prop where
  port : s.st.port = .portS
  bReq : s.bReq = none
  bAcc : s.bAcc = none
  bRsp : s.bRsp = none
  request : ∃ i beats, requestOf s = some i ∧ encode i = .portS beats ∧ beats ≠ [] ∧ PlacedS beats s

/-- The request of the current port B state is outstanding, and port S is empty. -/
structure AwaitsB (s : State) : Prop where
  port : s.st.port = .portB
  sReq : s.sReq = []
  sAcc : s.sAcc = []
  sRsp : s.sRsp = none
  request : ∃ i q, requestOf s = some i ∧ encode i = .portB q ∧ PlacedB q s

/-- The three forms of the discipline. -/
inductive Discipline (s : State) : Prop
  | quiet (ho : s.outstanding = false) (h : PortsEmpty s)
  | awaitsS (ho : s.outstanding = true) (h : AwaitsS s)
  | awaitsB (ho : s.outstanding = true) (h : AwaitsB s)

theorem portInv_iff (s : State) : PortInv s ↔ Discipline s := by
  unfold PortInv
  cases ho : s.outstanding with
  | false => exact ⟨.quiet ho, fun | .quiet _ h => h | .awaitsS h _ | .awaitsB h _ => absurd (ho.symm.trans h) (by decide)⟩
  | true =>
    constructor
    · rintro (⟨hp, hbReq, hbAcc, hbRsp, hreq⟩ | ⟨hp, hsReq, hsAcc, hsRsp, hreq⟩)
      · exact .awaitsS ho ⟨hp, hbReq, hbAcc, hbRsp, hreq⟩
      · exact .awaitsB ho ⟨hp, hsReq, hsAcc, hsRsp, hreq⟩
    · rintro (⟨hf, -⟩ | ⟨-, hp, hbReq, hbAcc, hbRsp, hreq⟩ | ⟨-, hp, hsReq, hsAcc, hsRsp, hreq⟩)
      · exact absurd (ho.symm.trans hf) (by decide)
      · exact .inl ⟨hp, hbReq, hbAcc, hbRsp, hreq⟩
      · exact .inr ⟨hp, hsReq, hsAcc, hsRsp, hreq⟩

theorem Discipline.portsEmpty {s : State} (hs : Discipline s) (ho : s.outstanding = false) : PortsEmpty s := by
  cases hs with
  | quiet _ h => exact h
  | awaitsS h _ | awaitsB h _ => exact absurd (ho.symm.trans h) (by decide)

/-- A state that issues no request has none outstanding (R21). -/
theorem Discipline.quiet_of_port_none {s : State} (hs : Discipline s) (hp : s.st.port = .none) :
    s.outstanding = false ∧ PortsEmpty s := by
  cases hs with
  | quiet ho h => exact ⟨ho, h⟩
  | awaitsS _ h => exact absurd (hp.symm.trans h.port) (by decide)
  | awaitsB _ h => exact absurd (hp.symm.trans h.port) (by decide)

theorem port_of_request_portS {s : State} {i : Instr} {beats : List SBeat} (hreq : requestOf s = some i)
    (henc : encode i = .portS beats) : s.st.port = .portS := by
  unfold requestOf at hreq
  cases hst : s.st with
  | phInit | phUpd | phFin | ssInit | ssUpd | ssFin | rhInit | rhUpd | rhFin | finSclr | errSclr => rfl
  | bhInit | bhExp | bhE0s | bhE0p | bhEnc | bhClr | errBclr => rw [hst] at hreq; cases hreq; cases henc
  | _ => rw [hst] at hreq; cases hreq

theorem port_of_request_portB {s : State} {i : Instr} {q : BReq} (hreq : requestOf s = some i)
    (henc : encode i = .portB q) : s.st.port = .portB := by
  unfold requestOf at hreq
  cases hst : s.st with
  | bhInit | bhExp | bhE0s | bhE0p | bhEnc | bhClr | errBclr => rfl
  | phInit | phUpd | phFin | ssInit | ssUpd | ssFin | rhInit | rhUpd | rhFin | finSclr | errSclr =>
    rw [hst] at hreq; cases hreq; cases henc
  | _ => rw [hst] at hreq; cases hreq

/-! ### The host -/

theorem discipline_of_host {s t : State} (hs : Discipline s) (h : HostMove s t) : Discipline t := by
  cases h with
  | busy hb hf _ =>
    unfold HostFrame at hf
    rw [hf]
    cases hs with
    | quiet ho he => exact .quiet ho he
    | awaitsS ho ha => exact .awaitsS ho ⟨ha.port, ha.bReq, ha.bAcc, ha.bRsp, ha.request⟩
    | awaitsB ho ha => exact .awaitsB ho ⟨ha.port, ha.sReq, ha.sAcc, ha.sRsp, ha.request⟩
  | idle hi hf _ _ =>
    obtain ⟨ho, he⟩ := hs.quiet_of_port_none (by rw [hi]; rfl)
    unfold ConfigFrame at hf
    rw [hf]
    exact .quiet ho he
  | start hi =>
    obtain ⟨ho, he⟩ := hs.quiet_of_port_none (by rw [hi]; rfl)
    exact .quiet ho he

/-! ### The sequencer -/

/-- A request that is answered is neither in the slot nor accepted. -/
theorem PlacedS.answered {beats : List SBeat} {s : State} (h : PlacedS beats s) (hr : s.sRsp ≠ none) :
    s.sReq = [] ∧ s.sAcc = [] := by
  obtain ⟨-, -, hn⟩ | ⟨-, -, hn⟩ | ⟨hreq, hacc, -⟩ := h
  · exact absurd hn hr
  · exact absurd hn hr
  · exact ⟨hreq, hacc⟩

theorem PlacedB.answered {q : BReq} {s : State} (h : PlacedB q s) (hr : s.bRsp ≠ none) :
    s.bReq = none ∧ s.bAcc = none := by
  obtain ⟨-, -, hn⟩ | ⟨-, -, hn⟩ | ⟨hreq, hacc, -⟩ := h
  · exact absurd hn hr
  · exact absurd hn hr
  · exact ⟨hreq, hacc⟩

/-- With the response taken, both ports are empty (R102, R104). -/
theorem portsEmpty_of_takesAnswer {s u : State} (hs : Discipline s) (hu : TakesAnswer s u) :
    u.outstanding = false ∧ PortsEmpty u := by
  cases hu with
  | portS ho hp hr =>
    cases hs with
    | quiet hq _ => exact absurd (ho.symm.trans hq) (by decide)
    | awaitsB _ h => exact absurd (hp.symm.trans h.port) (by decide)
    | awaitsS _ h =>
      obtain ⟨_, _, -, -, -, hplaced⟩ := h.request
      obtain ⟨hreq, hacc⟩ := hplaced.answered hr
      exact ⟨rfl, hreq, hacc, rfl, h.bReq, h.bAcc, h.bRsp⟩
  | portB ho hp hr =>
    cases hs with
    | quiet hq _ => exact absurd (ho.symm.trans hq) (by decide)
    | awaitsS _ h => exact absurd (hp.symm.trans h.port) (by decide)
    | awaitsB _ h =>
      obtain ⟨_, _, -, -, hplaced⟩ := h.request
      obtain ⟨hreq, hacc⟩ := hplaced.answered hr
      exact ⟨rfl, h.sReq, h.sAcc, h.sRsp, hreq, hacc, rfl⟩

theorem discipline_of_seq {s t : State} (hs : Discipline s) (h : SeqMove s t) : Discipline t := by
  have internal {st : SeqState} (hst : s.st = st) (hp : st.port = .none) : s.outstanding = false ∧ PortsEmpty s :=
    hs.quiet_of_port_none (hst ▸ hp)
  cases h with
  | stay => exact hs
  | abort hdue =>
    obtain ⟨-, ho, -, -⟩ := (State.abortDue_iff s).1 hdue
    exact .quiet ho (hs.portsEmpty ho)
  | issueS ho hreq henc =>
    obtain ⟨-, hsAcc, hsRsp, hbReq, hbAcc, hbRsp⟩ := hs.portsEmpty ho
    obtain ⟨op, len, last, rest, hbeats⟩ := header_of_encode_portS henc
    have hne : _ ≠ [] := hbeats ▸ List.cons_ne_nil _ _
    exact .awaitsS rfl ⟨port_of_request_portS hreq henc, hbReq, hbAcc, hbRsp, _, _, hreq, henc, hne,
      .inl ⟨rfl, hsAcc, hsRsp⟩⟩
  | issueB ho hreq henc =>
    obtain ⟨hsReq, hsAcc, hsRsp, -, hbAcc, hbRsp⟩ := hs.portsEmpty ho
    exact .awaitsB rfl ⟨port_of_request_portB hreq henc, hsReq, hsAcc, hsRsp, _, _, hreq, henc,
      .inl ⟨rfl, hbAcc, hbRsp⟩⟩
  | fault hu _ _ =>
    obtain ⟨ho, he⟩ := portsEmpty_of_takesAnswer hs hu
    exact .quiet ho he
  | complete hu ht =>
    obtain ⟨ho, he⟩ := portsEmpty_of_takesAnswer hs hu
    rw [ht.frame]
    exact .quiet ho he
  | checkFail hst | checkPass hst | loadConst hst | serialise hst | nextRound hst | lastRound hst | lastBlock hst
  | nextBlock hst | finish hst | errorEnd hst =>
    obtain ⟨ho, he⟩ := internal hst rfl
    exact .quiet ho he

/-! ### The engines -/

theorem discipline_of_engine {s t : State} (hs : Discipline s) (h : EngineMove s t) : Discipline t := by
  cases h with
  | stay => exact hs
  | acceptS hreq hacc =>
    cases hs with
    | quiet ho he => exact absurd he.1 hreq
    | awaitsB ho h => exact absurd h.sReq hreq
    | awaitsS ho h =>
      obtain ⟨i, beats, hi, henc, hne, ⟨hslot, -, hrsp⟩ | ⟨hslot, -, -⟩ | ⟨hslot, -, -⟩⟩ := h.request
      · exact .awaitsS ho ⟨h.port, h.bReq, h.bAcc, h.bRsp, i, beats, hi, henc, hne, .inr (.inl ⟨rfl, hslot, hrsp⟩)⟩
      · exact absurd hslot hreq
      · exact absurd hslot hreq
  | acceptB hreq hacc =>
    cases hs with
    | quiet ho he =>
      obtain ⟨-, -, -, hbReq, -, -⟩ := he
      exact absurd (hreq.symm.trans hbReq) nofun
    | awaitsS ho h => exact absurd (hreq.symm.trans h.bReq) nofun
    | awaitsB ho h =>
      obtain ⟨i, q, hi, henc, ⟨hslot, -, hrsp⟩ | ⟨hslot, -, -⟩ | ⟨hslot, -, -⟩⟩ := h.request
      · exact .awaitsB ho ⟨h.port, h.sReq, h.sAcc, h.sRsp, i, q, hi, henc,
          .inr (.inl ⟨rfl, hreq.symm.trans hslot, hrsp⟩)⟩
      · exact absurd (hreq.symm.trans hslot) nofun
      · exact absurd (hreq.symm.trans hslot) nofun
  | answerS err mu d hacc =>
    cases hs with
    | quiet ho he =>
      obtain ⟨-, hsAcc, -⟩ := he
      exact absurd hsAcc hacc
    | awaitsB ho h => exact absurd h.sAcc hacc
    | awaitsS ho h =>
      obtain ⟨i, beats, hi, henc, hne, ⟨-, hempty, -⟩ | ⟨hslot, -, hrsp⟩ | ⟨-, hempty, -⟩⟩ := h.request
      · exact absurd hempty hacc
      · rw [answerS_of_awaited mu d (s := { s with errDraw := err }) ho h.port hrsp]
        exact .awaitsS ho ⟨h.port, h.bReq, h.bAcc, h.bRsp, i, beats, hi, henc, hne, .inr (.inr ⟨hslot, rfl, nofun⟩)⟩
      · exact absurd hempty hacc
  | answerB err sigma w hacc =>
    cases hs with
    | quiet ho he =>
      obtain ⟨-, -, -, -, hbAcc, -⟩ := he
      exact absurd hbAcc hacc
    | awaitsS ho h => exact absurd h.bAcc hacc
    | awaitsB ho h =>
      obtain ⟨i, q, hi, henc, ⟨-, hempty, -⟩ | ⟨hslot, -, hrsp⟩ | ⟨-, hempty, -⟩⟩ := h.request
      · exact absurd hempty hacc
      · rw [answerB_of_awaited sigma w (s := { s with errDraw := err }) ho h.port hrsp]
        exact .awaitsB ho ⟨h.port, h.sReq, h.sAcc, h.sRsp, i, q, hi, henc, .inr (.inr ⟨hslot, rfl, nofun⟩)⟩
      · exact absurd hempty hacc

theorem discipline_of_take {s : State} {agenda : List Event} {drawn : Nat} (hs : Discipline s) :
    Discipline { s with agenda := agenda, drawn := drawn } := by
  cases hs with
  | quiet ho he => exact .quiet ho he
  | awaitsS ho h => exact .awaitsS ho ⟨h.port, h.bReq, h.bAcc, h.bRsp, h.request⟩
  | awaitsB ho h => exact .awaitsB ho ⟨h.port, h.sReq, h.sAcc, h.sRsp, h.request⟩

/-- Settles O48: an issue fills the slot of the state's own port, an engine moves the request on, a completion or a fault
takes the answer away, and no host access reaches the ports. -/
theorem stepKeepsThePortDiscipline : Obligations.StepKeepsThePortDiscipline := by
  intro s t hs h
  rw [portInv_iff] at hs ⊢
  exact step_keeps (fun _ _ _ => discipline_of_take) (fun _ _ => discipline_of_host) (fun _ _ => discipline_of_seq)
    (fun _ _ => discipline_of_engine) (fun u => .quiet rfl (resetBlock_portsEmpty u)) hs h

end Sys2Proof.Proofs.PortInvariant

/-! PROOFS. The counters of a run (spec/10_state.md R22, spec/44_pbkdf_driver.md R168): how many bytes each block gives the key,
what is left after it, and that every step keeps the counters in their ranges. -/

namespace Sys2Proof.Proofs.Counters

open Sys2Proof.Machine Sys2Proof.Proofs.Frames Sys2Proof.Proofs.Check Sys2Proof.Proofs.Driver Sys2Proof.Proofs.Moves
open Sys2Proof.Proofs.Agents
open Sys2Proof.Safety

/-! ### The shares of the blocks -/

/-- Block c of k gives the key n / k bytes, and one more if c is at most n mod k (R168). -/
theorem blockShare_eq {n k c : Nat} (hlo : 1 ≤ c) (hhi : c ≤ k) (hn : k ≤ n) :
    blockShare n k c = n / k + if c ≤ n % k then 1 else 0 := by
  have hk : 0 < k := by omega
  have hr := Nat.mod_lt n hk
  have hsplit : n + 1 - c + (k - 1) = k * (n / k) + (n % k + k - c) := by
    have := Nat.div_add_mod n k
    omega
  have hextra : (n % k + k - c) / k = if c ≤ n % k then 1 else 0 := by
    split
    · exact Nat.div_eq_of_lt_le (by omega) (by omega)
    · exact Nat.div_eq_of_lt (by omega)
  rw [blockShare, hsplit, Nat.mul_add_div hk, hextra]

/-- What is left after c blocks: n less the shares of the first c (R168). -/
theorem remainAfter_eq {n k c : Nat} (hc : c ≤ k) (hn : k ≤ n) :
    remainAfter n k c = n - (n / k * c + min c (n % k)) := by
  induction c with
  | zero => simp [remainAfter]
  | succ c ih =>
    rw [remainAfter, ih (by omega), blockShare_eq (by omega) hc hn, Nat.sub_sub, Nat.mul_succ]
    split <;> omega

/-- Before the last block some byte is left, and after it none (R168). -/
theorem remainAfter_eq_zero_iff {n k c : Nat} (hk : 0 < k) (hc : c ≤ k) (hn : k ≤ n) :
    remainAfter n k c = 0 ↔ c = k := by
  obtain ⟨j, rfl⟩ := Nat.exists_eq_add_of_le hc
  have hq : 1 ≤ n / (c + j) := Nat.div_pos hn hk
  have hr := Nat.mod_lt n hk
  have hsplit := Nat.div_add_mod' n (c + j)
  rw [Nat.mul_add] at hsplit
  rw [remainAfter_eq hc hn]
  constructor
  · intro h
    by_contra hne
    have := Nat.le_mul_of_pos_right (n / (c + j)) (show 0 < j by omega)
    omega
  · intro h
    obtain rfl : j = 0 := by omega
    omega

/-- Each block's share is still left when the block is placed (R168). -/
theorem blockShare_le_remainAfter {n k c : Nat} (hlo : 1 ≤ c) (hhi : c ≤ k) (hn : k ≤ n) :
    blockShare n k c ≤ remainAfter n k (c - 1) := by
  obtain ⟨c, rfl⟩ := Nat.exists_eq_add_of_le' hlo
  obtain ⟨j, rfl⟩ := Nat.exists_eq_add_of_le hhi
  have hsplit := Nat.div_add_mod' n (c + 1 + j)
  rw [Nat.mul_add, Nat.mul_succ] at hsplit
  rw [Nat.add_sub_cancel, remainAfter_eq (by omega) hn, blockShare_eq hlo hhi hn]
  split <;> omega

theorem blockShare_pos {n k c : Nat} (hlo : 1 ≤ c) (hhi : c ≤ k) (hn : k ≤ n) : 1 ≤ blockShare n k c := by
  have hq : 1 ≤ n / k := Nat.div_pos hn (by omega)
  rw [blockShare_eq hlo hhi hn]
  omega

/-- AMT bounds every share (R125, R168). -/
theorem blockShare_le_ceil {n k c : Nat} (hlo : 1 ≤ c) (hhi : c ≤ k) : blockShare n k c ≤ (n + k - 1) / k :=
  Nat.div_le_div_right (by omega)

/-- The positions of block c below n are those of the indices below its share (R167, R168). -/
theorem position_lt_iff {n k c i : Nat} (hlo : 1 ≤ c) (hhi : c ≤ k) :
    i * k + (c - 1) < n ↔ i < blockShare n k c := by
  rw [blockShare, Nat.lt_div_iff_mul_lt (by omega)]
  omega

theorem countP_range_lt (k m : Nat) : ((List.range k).countP fun i => decide (i < m)) = min k m := by
  induction k with
  | zero => simp
  | succ k ih =>
    rw [List.range_succ, List.countP_append, ih, List.countP_singleton]
    by_cases h : k < m <;> simp [h] <;> omega

/-! ### The invariant by name -/

/-- The state is one of the last two of a run, in which no byte is left to place. -/
def Final (st : SeqState) : Prop := st = .finSclr ∨ st = .finZero

theorem not_final {st : SeqState} (hs : st ≠ .finSclr) (hz : st ≠ .finZero) : ¬Final st := not_or.2 ⟨hs, hz⟩

/-- What `CountersInv` says of a state that computes. -/
structure InRange (s : State) : Prop where
  legal : ParamsLegal s
  stride : s.stride.toNat = (s.outLen.toNat + 31) / 32
  amt : s.amt.toNat = (s.outLen.toNat + s.stride.toNat - 1) / s.stride.toNat
  blkCnt_pos : 1 ≤ s.blkCnt.toNat
  blkCnt_le : s.blkCnt.toNat ≤ s.stride.toNat
  rndCnt_pos : 1 ≤ s.rndCnt.toNat
  rndCnt_le : s.rndCnt.toNat ≤ s.rounds.toNat
  remain_of_final : Final s.st → s.remain.toNat = 0
  remain : ¬Final s.st → s.remain.toNat = remainAfter s.outLen.toNat s.stride.toNat (s.blkCnt.toNat - 1)

theorem countersInv_iff (s : State) : CountersInv s ↔ (Computing s.st → InRange s) := by
  unfold CountersInv
  refine forall_congr' fun _ => ⟨?_, fun h => ?_⟩
  · rintro ⟨hlegal, hstride, hamt, hblkLo, hblkHi, hrndLo, hrndHi, hremain⟩
    exact ⟨hlegal, hstride, hamt, hblkLo, hblkHi, hrndLo, hrndHi, fun hf => hremain.trans (if_pos hf),
      fun hf => hremain.trans (if_neg hf)⟩
  · refine ⟨h.legal, h.stride, h.amt, h.blkCnt_pos, h.blkCnt_le, h.rndCnt_pos, h.rndCnt_le, ?_⟩
    split
    · next hf => exact h.remain_of_final hf
    · next hf => exact h.remain hf

section
variable {s : State} (h : InRange s)
include h

theorem InRange.outLen_pos : 1 ≤ s.outLen.toNat := by
  obtain ⟨-, -, -, -, -, hlo, -⟩ := h.legal
  exact hlo

theorem InRange.outLen_le : s.outLen.toNat ≤ 1024 := by
  obtain ⟨-, -, -, -, -, -, hhi⟩ := h.legal
  exact hhi

theorem InRange.stride_pos : 1 ≤ s.stride.toNat := h.blkCnt_pos.trans h.blkCnt_le

theorem InRange.stride_le_outLen : s.stride.toNat ≤ s.outLen.toNat := by
  have hstride := h.stride
  have hpos := h.outLen_pos
  omega

theorem InRange.amt_le : s.amt.toNat ≤ 32 := by
  rw [h.amt, add_pred_div_le_iff h.stride_pos]
  have hstride := h.stride
  omega

theorem InRange.operandFits : OperandFits s := by
  obtain ⟨-, -, hpw, -, hsalt, -⟩ := h.legal
  exact ⟨fun _ => hpw, fun _ => hsalt⟩

/-- DIST places the block's whole share (R167, R168). -/
theorem InRange.distCount_eq (hf : ¬Final s.st) :
    s.distCount = blockShare s.outLen.toNat s.stride.toNat s.blkCnt.toNat := by
  have hshare := blockShare_le_remainAfter h.blkCnt_pos h.blkCnt_le h.stride_le_outLen
  have hceil := blockShare_le_ceil (n := s.outLen.toNat) h.blkCnt_pos h.blkCnt_le
  rw [← h.remain hf] at hshare
  rw [← h.amt] at hceil
  rw [distCount_eq_countP h.blkCnt_pos]
  simp only [distPos, position_lt_iff h.blkCnt_pos h.blkCnt_le, countP_range_lt]
  omega

/-- What DIST leaves to place (R168). -/
theorem InRange.remain_sub_distCount (hf : ¬Final s.st) :
    s.remain.toNat - s.distCount = remainAfter s.outLen.toNat s.stride.toNat s.blkCnt.toNat := by
  obtain ⟨c, hc⟩ := Nat.exists_eq_add_of_le' h.blkCnt_pos
  rw [h.distCount_eq hf, h.remain hf, hc]
  rfl

/-- Nothing is left exactly after block STRIDE (R168). -/
theorem InRange.remain_sub_distCount_eq_zero_iff (hf : ¬Final s.st) :
    s.remain.toNat - s.distCount = 0 ↔ s.blkCnt.toNat = s.stride.toNat := by
  rw [h.remain_sub_distCount hf, remainAfter_eq_zero_iff h.stride_pos h.blkCnt_le h.stride_le_outLen]

end

/-- A count of bytes that REMAIN holds, less some, fits its eleven bits. -/
theorem toNat_remain_sub (s : State) (w : Nat) : (BitVec.ofNat 11 (s.remain.toNat - w)).toNat = s.remain.toNat - w :=
  Nat.mod_eq_of_lt ((Nat.sub_le _ _).trans_lt s.remain.isLt)

/-! ### Every step -/

theorem not_computing_idle : ¬Computing .idle := fun h => h.1 rfl

theorem not_computing_check : ¬Computing .check := fun h => h.2.1 rfl

theorem not_computing_of_onErrorPath {st : SeqState} (h : SeqState.onErrorPath st = true) : ¬Computing st :=
  fun hc => absurd (h.symm.trans hc.2.2) (by decide)

theorem computing_of_state {s : State} {st : SeqState} (hst : s.st = st) (h : Computing st) : Computing s.st := hst ▸ h

theorem not_final_of_state {s : State} {st : SeqState} (hst : s.st = st) (h : ¬Final st) : ¬Final s.st := hst ▸ h

/-- A state that issues a request and is off the error path computes (R70). -/
theorem computing_of_port {st : SeqState} (hp : st.port ≠ .none) (h : SeqState.onErrorPath st = false) :
    Computing st :=
  ⟨fun hi => hp (by rw [hi]; rfl), fun hc => hp (by rw [hc]; rfl), h⟩

theorem inRange_of_host {s t : State} (hs : Computing s.st → InRange s) (h : HostMove s t) (hc : Computing t.st) :
    InRange t := by
  cases h with
  | busy hb hf _ =>
    unfold HostFrame at hf
    rw [hf] at hc ⊢
    obtain ⟨h1, h2, h3, h4, h5, h6, h7, h8, h9⟩ := hs hc
    exact ⟨h1, h2, h3, h4, h5, h6, h7, h8, h9⟩
  | idle hi hf _ _ =>
    unfold ConfigFrame at hf
    rw [hf] at hc
    exact absurd (hi ▸ hc) not_computing_idle
  | start => exact absurd hc not_computing_check

/-- A completion keeps the counters, and with them what is left to place. -/
theorem InRange.of_completes {u t : State} (h : InRange u) (ht : Completes u t) : InRange t := by
  have hfinal := ht.final
  rw [ht.frame] at hfinal ⊢
  exact ⟨h.legal, h.stride, h.amt, h.blkCnt_pos, h.blkCnt_le, h.rndCnt_pos, h.rndCnt_le,
    fun hf => h.remain_of_final (hfinal.1 hf), fun hf => h.remain fun hu => hf (hfinal.2 hu)⟩

/-- Taking the answer keeps the counters. -/
theorem InRange.of_takesAnswer {s u : State} (h : InRange s) (hu : TakesAnswer s u) : InRange u := by
  rw [hu.frame]
  exact ⟨h.legal, h.stride, h.amt, h.blkCnt_pos, h.blkCnt_le, h.rndCnt_pos, h.rndCnt_le, h.remain_of_final, h.remain⟩

/-- A visit that stays short of the last two states keeps the counters if it writes none. -/
theorem InRange.of_state {s t : State} (h : InRange s) (hs : ¬Final s.st) (ht : ¬Final t.st)
    (hframe : t = { s with
      st := t.st, cw := t.cw, prev := t.prev, block := t.block }) : InRange t := by
  rw [hframe] at ht ⊢
  exact ⟨h.legal, h.stride, h.amt, h.blkCnt_pos, h.blkCnt_le, h.rndCnt_pos, h.rndCnt_le, fun hf => absurd hf ht,
    fun _ => h.remain hs⟩

/-- CHECK sets every counter in its range (R121, R124, R125). -/
theorem inRange_of_checkPass {s : State} (hlegal : ParamsLegal s) :
    InRange { s with
      stride := strideOf s.outLen, amt := amtOf s.outLen, remain := s.outLen.setWidth 11, blkCnt := 1, rndCnt := 1
      iter := 0, st := .phInit } := by
  obtain ⟨hrounds, -, -, -, -, hlo, hhi⟩ := id hlegal
  have hstride := toNat_strideOf hhi
  have hremain : (s.outLen.setWidth 11).toNat = s.outLen.toNat := by
    rw [BitVec.toNat_setWidth]
    exact Nat.mod_eq_of_lt (by omega)
  have hone : 1 ≤ (strideOf s.outLen).toNat := by omega
  exact ⟨hlegal, hstride, toNat_amtOf hlo hhi, le_rfl, hone, le_rfl, hrounds,
    fun hf => absurd hf (not_final (st := .phInit) nofun nofun), fun _ => hremain⟩

/-- ACC counts RNDCNT up to at most ROUNDS (R163). -/
theorem InRange.of_nextRound {s : State} (h : InRange s) (hf : ¬Final s.st) (hlt : s.rndCnt.toNat < s.rounds.toNat)
    (b : Bytes32) : InRange { s with block := b, rndCnt := s.rndCnt + 1, st := .rhInit } := by
  have hcount : (s.rndCnt + 1).toNat = s.rndCnt.toNat + 1 := by bv_omega
  exact ⟨h.legal, h.stride, h.amt, h.blkCnt_pos, h.blkCnt_le, hcount ▸ Nat.le_add_left .., hcount ▸ hlt,
    fun hf => absurd hf (not_final (st := .rhInit) nofun nofun), fun _ => h.remain hf⟩

/-- After the last block nothing is left (R167). -/
theorem InRange.of_lastBlock {s : State} (h : InRange s) (hw : s.remain.toNat - s.distCount = 0) (m : Memory) :
    InRange { s with mem := m, remain := BitVec.ofNat 11 (s.remain.toNat - s.distCount), st := .finSclr } :=
  ⟨h.legal, h.stride, h.amt, h.blkCnt_pos, h.blkCnt_le, h.rndCnt_pos, h.rndCnt_le,
    fun _ => (toNat_remain_sub s _).trans hw, fun hf => absurd (.inl rfl) hf⟩

/-- After another block the next one follows, BLKCNT still at most STRIDE, with the rest left to place (R167, R168). -/
theorem InRange.of_nextBlock {s : State} (h : InRange s) (hf : ¬Final s.st) (hw : s.remain.toNat - s.distCount ≠ 0)
    (m : Memory) :
    InRange { s with
      mem := m, remain := BitVec.ofNat 11 (s.remain.toNat - s.distCount), blkCnt := s.blkCnt + 1, rndCnt := 1
      st := .ssInit } := by
  have hne : s.blkCnt.toNat ≠ s.stride.toNat := mt (h.remain_sub_distCount_eq_zero_iff hf).2 hw
  have hle := h.blkCnt_le
  have hstride := s.stride.isLt
  have hcount : (s.blkCnt + 1).toNat = s.blkCnt.toNat + 1 := by bv_omega
  obtain ⟨hrounds, -⟩ := id h.legal
  refine ⟨h.legal, h.stride, h.amt, hcount ▸ Nat.le_add_left .., ?_, le_rfl, hrounds,
    fun hf => absurd hf (not_final (st := .ssInit) nofun nofun), fun _ => ?_⟩
  · change (s.blkCnt + 1).toNat ≤ s.stride.toNat
    omega
  · change (BitVec.ofNat 11 (s.remain.toNat - s.distCount)).toNat =
      remainAfter s.outLen.toNat s.stride.toNat ((s.blkCnt + 1).toNat - 1)
    rw [toNat_remain_sub, h.remain_sub_distCount hf, hcount, Nat.add_sub_cancel]

theorem inRange_of_seq {s t : State} (hs : Computing s.st → InRange s) (h : SeqMove s t) (hc : Computing t.st) :
    InRange t := by
  cases h with
  | stay => exact hs hc
  | issueS | issueB =>
    obtain ⟨h1, h2, h3, h4, h5, h6, h7, h8, h9⟩ := hs hc
    exact ⟨h1, h2, h3, h4, h5, h6, h7, h8, h9⟩
  | abort => exact absurd hc (not_computing_of_onErrorPath rfl)
  | fault => exact absurd hc (not_computing_of_onErrorPath (State.raiseFault_onErrorPath ..))
  | checkFail => exact absurd hc (not_computing_of_onErrorPath (State.raiseFault_onErrorPath ..))
  | finish | errorEnd => exact absurd hc not_computing_idle
  | complete hu ht =>
    have hst := congrArg State.st hu.frame
    have hpath : SeqState.onErrorPath s.st = false := by
      rw [← hst, ← ht.path]
      exact hc.2.2
    exact ((hs (computing_of_port hu.port_ne_none hpath)).of_takesAnswer hu).of_completes ht
  | checkPass hst hlegal => exact inRange_of_checkPass hlegal
  | loadConst hst =>
    exact (hs (computing_of_state hst ⟨nofun, nofun, rfl⟩)).of_state (not_final_of_state hst (not_final nofun nofun))
      (not_final (st := .bhEnc) nofun nofun) rfl
  | serialise hst =>
    exact (hs (computing_of_state hst ⟨nofun, nofun, rfl⟩)).of_state (not_final_of_state hst (not_final nofun nofun))
      (not_final (st := .bhClr) nofun nofun) rfl
  | lastRound hst =>
    exact (hs (computing_of_state hst ⟨nofun, nofun, rfl⟩)).of_state (not_final_of_state hst (not_final nofun nofun))
      (not_final (st := .dist) nofun nofun) rfl
  | nextRound hst hlt =>
    exact (hs (computing_of_state hst ⟨nofun, nofun, rfl⟩)).of_nextRound
      (not_final_of_state hst (not_final nofun nofun)) hlt _
  | lastBlock hst _ hw => exact (hs (computing_of_state hst ⟨nofun, nofun, rfl⟩)).of_lastBlock hw _
  | nextBlock hst _ hw =>
    exact (hs (computing_of_state hst ⟨nofun, nofun, rfl⟩)).of_nextBlock
      (not_final_of_state hst (not_final nofun nofun)) hw _

theorem countersInv_of_engine {s t : State} (hs : CountersInv s) (h : EngineMove s t) : CountersInv t := by
  rw [h.frame]
  exact hs

/-- Settles O49: CHECK sets the counters in their ranges, ACC and DIST count inside them, and no other step writes them
before the run ends. -/
theorem stepKeepsTheCounterRanges : Obligations.StepKeepsTheCounterRanges := fun _ _ =>
  step_keeps (fun _ _ _ h => h)
    (fun s t hs h => (countersInv_iff t).2 (inRange_of_host ((countersInv_iff s).1 hs) h))
    (fun s t hs h => (countersInv_iff t).2 (inRange_of_seq ((countersInv_iff s).1 hs) h))
    (fun _ _ => countersInv_of_engine) fun _ hc => absurd hc not_computing_idle

/-- Settles O33: the block's share is what DIST places, positive, and all that is left exactly at block STRIDE. -/
theorem distPlacesTheBlocksShare : Obligations.DistPlacesTheBlocksShare := by
  intro s t hinv hst hexec n c
  have hr : InRange s := (countersInv_iff s).1 hinv (computing_of_state hst ⟨nofun, nofun, rfl⟩)
  have hf : ¬Final s.st := not_final_of_state hst (not_final nofun nofun)
  have hshare : s.distCount = (n - c + 1 + (s.stride.toNat - 1)) / s.stride.toNat := by
    have hcn : c ≤ n := hr.blkCnt_le.trans hr.stride_le_outLen
    rw [hr.distCount_eq hf, blockShare, Nat.sub_add_comm hcn]
  have hpos : 1 ≤ s.distCount := by
    rw [hr.distCount_eq hf]
    exact blockShare_pos hr.blkCnt_pos hr.blkCnt_le hr.stride_le_outLen
  have hle : s.distCount ≤ s.remain.toNat := (distCount_le hr.blkCnt_pos).trans (Nat.min_le_right ..)
  have hlast : s.remain.toNat - s.distCount = 0 ↔ c = s.stride.toNat := hr.remain_sub_distCount_eq_zero_iff hf
  have hnum := toNat_remain_sub s s.distCount
  rw [exec_stateDist_eq_ite hr.amt_le hr.outLen_le] at hexec
  have hremain : t.remain = BitVec.ofNat 11 (s.remain.toNat - s.distCount) := by
    split at hexec <;> cases hexec <;> rfl
  have hnext : t.st = .finSclr ↔ s.remain.toNat - s.distCount = 0 := by
    split at hexec <;> cases hexec
    · next hw => exact iff_of_true rfl hw
    · next hw => exact iff_of_false nofun hw
  refine ⟨?_, ?_, ?_, hnext.trans hlast⟩
  · rw [hremain, hnum, ← hshare]
    omega
  · rw [hremain, hnum]
    omega
  · rw [← hlast, hremain, BitVec.toNat_eq, hnum]
    rfl

end Sys2Proof.Proofs.Counters

/-! PROOFS. The report (spec/10_state.md R16, spec/60_exceptions.md R186, R187, R193): the words that the error entry writes to
ERRCODE, the rules every step keeps, and that the error path records no second error. -/

namespace Sys2Proof.Proofs.ReportInvariant

open Sys2Proof.Machine Sys2Proof.Proofs.Frames Sys2Proof.Proofs.HostReads Sys2Proof.Proofs.Check Sys2Proof.Proofs.Moves
open Sys2Proof.Proofs.Agents Sys2Proof.Proofs.UnansweredRequest Sys2Proof.Proofs.Idle
open Sys2Proof.Proofs.Report (errCode_of_engineFrame)
open Sys2Proof.Safety

/-! ### The word of an error -/

/-- ERRCODE as its three fields: CODE, INFO and FSTATE (R66, R186). -/
theorem errCodeWord_eq_fields (e : ErrKind) (info : BitVec 8) (f : SeqState) :
    errCodeWord e info f = fieldAt e.code 0 ||| fieldAt info 8 ||| fieldAt f.code 16 := by
  simp [errCodeWord, fieldAt]

/-- The low four bits of the word are CODE (R66). -/
theorem errCodeWord_and_codeMask (e : ErrKind) (info : BitVec 8) (f : SeqState) :
    errCodeWord e info f &&& 0xF = e.code.setWidth 32 := by
  refine BitVec.eq_of_getLsbD_eq fun i hi => ?_
  simp only [errCodeWord_eq_fields, BitVec.getLsbD_and, BitVec.getLsbD_or, getLsbD_fieldAt, BitVec.getLsbD_setWidth]
  interval_cases i <;> simp

/-- The reserved bits of the word are 0 where INFO's bit 7 is (R66). -/
theorem errCodeWord_and_reserved (e : ErrKind) {info : BitVec 8} (hinfo : info.getLsbD 7 = false) (f : SeqState) :
    errCodeWord e info f &&& 0xFFE080F0 = 0 := by
  refine BitVec.eq_of_getLsbD_eq fun i hi => ?_
  simp only [errCodeWord_eq_fields, BitVec.getLsbD_and, BitVec.getLsbD_or, getLsbD_fieldAt]
  obtain rfl | hne := eq_or_ne i 15
  · simp only [Nat.reduceSub, hinfo]
    simp
  · interval_cases i <;> simp at hne ⊢

/-- CODE is one of 1 to 4 (R187). -/
theorem toNat_code (e : ErrKind) : 1 ≤ (e.code.setWidth 32).toNat ∧ (e.code.setWidth 32).toNat ≤ 4 := by
  cases e <;> decide

theorem checkInfo_bit7 (s : State) : s.checkInfo.getLsbD 7 = false := by
  obtain ⟨-, -, -, -, -, -, -, h⟩ := checkInfo_fields s
  exact h

/-! ### The rules -/

/-- `ReportInv` by name. -/
structure ReportRules (s : State) : Prop where
  exclusive : ¬(s.done = true ∧ s.err = true)
  busy : s.st ≠ .idle → s.done = false ∧ s.err = false
  clean : s.st ≠ .idle → SeqState.onErrorPath s.st = false → s.errCode = 0
  success : s.done = true → s.errCode = 0
  recorded : SeqState.onErrorPath s.st = true → 1 ≤ (s.errCode &&& 0xF).toNat
  code : (s.errCode &&& 0xF).toNat ≤ 4
  reserved : s.errCode &&& 0xFFE080F0 = 0

theorem reportInv_iff (s : State) : ReportInv s ↔ ReportRules s :=
  ⟨fun ⟨h1, h2, h3, h4, h5, h6, h7⟩ => ⟨h1, h2, h3, h4, h5, h6, h7⟩,
    fun h => ⟨h.exclusive, h.busy, h.clean, h.success, h.recorded, h.code, h.reserved⟩⟩

/-- With ERRCODE zero and no error path entered, only the flags matter. -/
theorem ReportRules.of_errCode_zero {s : State} (hcode : s.errCode = 0) (hpath : SeqState.onErrorPath s.st = false)
    (hexcl : ¬(s.done = true ∧ s.err = true)) (hbusy : s.st ≠ .idle → s.done = false ∧ s.err = false) :
    ReportRules s :=
  ⟨hexcl, hbusy, fun _ _ => hcode, fun _ => hcode, fun h => absurd (hpath.symm.trans h) (by decide), by simp [hcode],
    by simp [hcode]⟩

/-- A visit of the run that keeps the report keeps its rules. -/
theorem ReportRules.of_run {s t : State} (h : ReportRules s) (hs : s.st ≠ .idle)
    (hpath : SeqState.onErrorPath t.st = SeqState.onErrorPath s.st) (hdone : t.done = s.done) (herr : t.err = s.err)
    (hcode : t.errCode = s.errCode) : ReportRules t := by
  obtain ⟨hd, he⟩ := h.busy hs
  rw [← hdone] at hd
  rw [← herr] at he
  refine ⟨fun hb => absurd (hd.symm.trans hb.1) (by decide), fun _ => ⟨hd, he⟩, fun _ hp => ?_,
    fun hb => absurd (hd.symm.trans hb) (by decide), fun hp => ?_, hcode ▸ h.code, hcode ▸ h.reserved⟩
  · rw [hcode]
    exact h.clean hs (hpath.symm.trans hp)
  · rw [hcode]
    exact h.recorded (hpath.symm.trans hp)

/-- The error entry from a running block keeps the rules, with a code that is not 0 (R186, R187). -/
theorem ReportRules.raiseFault {s : State} (h : ReportRules s) (hs : s.st ≠ .idle) (e : ErrKind) {info : BitVec 8}
    (hinfo : info.getLsbD 7 = false) (f : SeqState) : ReportRules (s.raiseFault e info f) := by
  obtain ⟨hd, he⟩ := h.busy hs
  obtain ⟨hlo, hhi⟩ := toNat_code e
  have hpath := s.raiseFault_onErrorPath e info f
  have hcode := errCodeWord_and_codeMask e info f
  exact ⟨fun hb => absurd (hd.symm.trans hb.1) (by decide), fun _ => ⟨hd, he⟩,
    fun _ hp => absurd (hp.symm.trans hpath) (by decide), fun hb => absurd (hd.symm.trans hb) (by decide),
    fun _ => hcode ▸ hlo, hcode ▸ hhi, errCodeWord_and_reserved e hinfo f⟩

theorem ne_idle_of_state {s : State} {st : SeqState} (hst : s.st = st) (h : st ≠ .idle) : s.st ≠ .idle := hst ▸ h

theorem path_of_state {s : State} {st : SeqState} {b : Bool} (hst : s.st = st) (h : SeqState.onErrorPath st = b) :
    b = SeqState.onErrorPath s.st := by rw [hst, h]

theorem ReportRules.of_takesAnswer {s u : State} (h : ReportRules s) (hu : TakesAnswer s u) : ReportRules u := by
  rw [hu.frame]
  exact ⟨h.exclusive, h.busy, h.clean, h.success, h.recorded, h.code, h.reserved⟩

theorem reportRules_of_host {s t : State} (h : ReportRules s) (hm : HostMove s t) : ReportRules t := by
  cases hm with
  | busy hb hf hfall =>
    obtain ⟨hd, he⟩ := h.busy hb
    have hdone : t.done = s.done := by
      rw [hd, Bool.eq_false_iff]
      exact fun ht => absurd (hd.symm.trans (hfall.done ht)) (by decide)
    have herr : t.err = s.err := by
      rw [he, Bool.eq_false_iff]
      exact fun ht => absurd (he.symm.trans (hfall.err ht)) (by decide)
    have hkept := visitKept_of_hostFrame hf
    exact h.of_run hb (congrArg _ hkept.st) hdone herr hkept.errCode
  | idle hi hf hfall _ =>
    have hst := st_of_configFrame hf
    have hcode := errCode_of_configFrame hf
    exact ⟨fun hb => h.exclusive ⟨hfall.done hb.1, hfall.err hb.2⟩, fun hne => absurd (hst.trans hi) hne,
      fun hne => absurd (hst.trans hi) hne, fun hd => hcode.trans (h.success (hfall.done hd)),
      fun hp => by rw [hcode]; exact h.recorded (hst ▸ hp), hcode ▸ h.code, hcode ▸ h.reserved⟩
  | start hi => exact .of_errCode_zero rfl rfl (fun hb => nomatch hb.1) fun _ => ⟨rfl, rfl⟩

theorem reportRules_of_seq {s t : State} (h : ReportRules s) (hm : SeqMove s t) : ReportRules t := by
  cases hm with
  | stay => exact h
  | issueS | issueB => exact ⟨h.exclusive, h.busy, h.clean, h.success, h.recorded, h.code, h.reserved⟩
  | abort hdue =>
    obtain ⟨-, -, hne, -⟩ := (State.abortDue_iff s).1 hdue
    have hr := h.raiseFault hne .aborted (info := 0) rfl s.st
    exact ⟨hr.exclusive, hr.busy, hr.clean, hr.success, hr.recorded, hr.code, hr.reserved⟩
  | fault hu _ _ =>
    exact (h.of_takesAnswer hu).raiseFault (hu.st_eq ▸ hu.ne_idle) _ rfl _
  | complete hu ht =>
    exact (h.of_takesAnswer hu).of_run (hu.st_eq ▸ hu.ne_idle) ht.path ht.done_eq ht.err_eq ht.errCode_eq
  | checkFail hst => exact h.raiseFault (ne_idle_of_state hst nofun) _ (checkInfo_bit7 s) _
  | checkPass hst | loadConst hst | serialise hst | nextRound hst | lastRound hst | lastBlock hst | nextBlock hst =>
    exact h.of_run (ne_idle_of_state hst nofun) (path_of_state hst rfl) rfl rfl rfl
  | finish hst =>
    have hne := ne_idle_of_state hst nofun
    obtain ⟨-, he⟩ := h.busy hne
    exact .of_errCode_zero (h.clean hne (path_of_state hst rfl).symm) rfl
      (fun hb => absurd (he.symm.trans hb.2) (by decide)) fun hi => absurd rfl hi
  | errorEnd hst =>
    obtain ⟨hd, -⟩ := h.busy (ne_idle_of_state hst nofun)
    exact ⟨fun hb => absurd (hd.symm.trans hb.1) (by decide), fun hi => absurd rfl hi, fun hi => absurd rfl hi,
      fun hb => absurd (hd.symm.trans hb) (by decide), nofun, h.code, h.reserved⟩

theorem reportRules_of_engine {s t : State} (h : ReportRules s) (hm : EngineMove s t) : ReportRules t := by
  rw [hm.frame]
  exact ⟨h.exclusive, h.busy, h.clean, h.success, h.recorded, h.code, h.reserved⟩

theorem reportRules_resetBlock (s : State) : ReportRules s.resetBlock :=
  .of_errCode_zero rfl rfl (fun hb => nomatch hb.1) fun hi => absurd rfl hi

/-- Settles O50: the host only lowers flags, the error entry records a legal code, and the last two states report success and
error. -/
theorem stepKeepsTheReportRules : Obligations.StepKeepsTheReportRules := by
  intro s t hs h
  rw [reportInv_iff] at hs ⊢
  exact step_keeps (fun _ _ _ h => ⟨h.exclusive, h.busy, h.clean, h.success, h.recorded, h.code, h.reserved⟩)
    (fun _ _ => reportRules_of_host) (fun _ _ => reportRules_of_seq) (fun _ _ => reportRules_of_engine)
    reportRules_resetBlock hs h

/-! ### The error path -/

/-- On the error path, or past its end. -/
def PathOrIdle (st : SeqState) : Prop := SeqState.onErrorPath st = true ∨ st = .idle

/-- On the error path no abort is due and no answer is a fault, so ERRCODE stays (R100, R193). -/
theorem seqMove_onErrorPath {s t : State} (hp : SeqState.onErrorPath s.st = true) (hm : SeqMove s t) :
    t.errCode = s.errCode ∧ PathOrIdle t.st := by
  cases hm with
  | stay | issueS | issueB => exact ⟨rfl, .inl hp⟩
  | abort hdue =>
    obtain ⟨-, -, -, hpath⟩ := (State.abortDue_iff s).1 hdue
    exact absurd (hpath.symm.trans hp) (by decide)
  | fault _ _ hpath => exact absurd (hpath.symm.trans hp) (by decide)
  | complete hu ht =>
    exact ⟨ht.errCode_eq.trans hu.errCode_eq, .inl (by rw [ht.path, hu.st_eq, hp])⟩
  | checkFail hst | checkPass hst | loadConst hst | serialise hst | nextRound hst | lastRound hst | lastBlock hst
  | nextBlock hst | finish hst =>
    rw [hst] at hp
    cases hp
  | errorEnd => exact ⟨rfl, .inr rfl⟩

/-- Settles O38: the host and the engines write neither ERRCODE nor STATE while busy, and the sequencer stays on the path. -/
theorem firstErrorIsTheOneRecorded : Obligations.FirstErrorIsTheOneRecorded := by
  intro s t hp hstep hrst
  have htake := takeEvent_visitKept s
  rw [← htake.st] at hp
  rw [← htake.errCode]
  cases step_move hrst hstep with
  | host hm =>
    cases hm with
    | busy _ hf _ =>
      have hkept := visitKept_of_hostFrame hf
      exact ⟨hkept.errCode, .inl (hkept.st ▸ hp)⟩
    | idle hi | start hi =>
      rw [hi] at hp
      cases hp
  | seq hm => exact seqMove_onErrorPath hp hm
  | engine hm => exact ⟨errCode_of_engineFrame hm.frame, .inl (st_of_engineFrame hm.frame ▸ hp)⟩

end Sys2Proof.Proofs.ReportInvariant

/-! PROOFS. What a block that does not compute holds (spec/10_state.md R16, R30, spec/70_reset_and_hazards.md R218, R222, R225):
nothing in the working registers in IDLE and CHECK, nothing in CW outside its use, nothing in OUTBUF past OUT_LEN, and no
secret when a run ends. -/

namespace Sys2Proof.Proofs.Residue

open Sys2Proof.Machine Sys2Proof.Proofs.Frames Sys2Proof.Proofs.Commands Sys2Proof.Proofs.Driver
open Sys2Proof.Proofs.ErrorPath Sys2Proof.Proofs.Buffers Sys2Proof.Proofs.Moves Sys2Proof.Proofs.Agents
open Sys2Proof.Proofs.Counters Sys2Proof.Proofs.ReportInvariant Sys2Proof.Proofs.Steps Sys2Proof.Proofs.PortInvariant
open Sys2Proof.Proofs.UnansweredRequest Sys2Proof.Proofs.Idle
open Sys2Proof.Safety

/-! ### IDLE and CHECK -/

theorem idleInv_of_running {s : State} (hi : s.st ≠ .idle) (hc : s.st ≠ .check) : IdleInv s :=
  ⟨fun h => absurd h hi, fun h => absurd h (not_or.2 ⟨hi, hc⟩)⟩

theorem zeroSecrets_workZero (s : State) : WorkZero s.zeroSecrets :=
  ⟨rfl, rfl, rfl, rfl, rfl, rfl, rfl, rfl, rfl, rfl, rfl⟩

theorem idleInv_of_host {s t : State} (hs : IdleInv s) (hm : HostMove s t) : IdleInv t := by
  obtain ⟨habort, hwork⟩ := hs
  cases hm with
  | busy hb hf _ =>
    unfold HostFrame at hf
    rw [hf]
    exact ⟨fun hi => absurd hi hb, hwork⟩
  | idle hi hf _ _ =>
    unfold ConfigFrame at hf
    rw [hf]
    exact ⟨habort, hwork⟩
  | start hi => exact ⟨nofun, fun _ => hwork (.inl hi)⟩

theorem idleInv_of_seq {s t : State} (hs : IdleInv s) (hm : SeqMove s t) : IdleInv t := by
  cases hm with
  | stay | issueS | issueB => exact hs
  | abort => exact idleInv_of_running nofun nofun
  | fault _ he =>
    refine idleInv_of_running ?_ ?_ <;> rw [State.raiseFault_st, if_neg he] <;> exact nofun
  | complete _ ht => exact idleInv_of_running ht.busy.1 ht.busy.2
  | checkFail | checkPass | loadConst | serialise | nextRound | lastRound | lastBlock | nextBlock =>
    exact idleInv_of_running nofun nofun
  | finish => exact ⟨fun _ => rfl, fun _ => zeroSecrets_workZero s⟩
  | errorEnd => exact ⟨fun _ => rfl, fun _ => zeroSecrets_workZero s⟩

theorem idleInv_of_engine {s t : State} (hs : IdleInv s) (hm : EngineMove s t) : IdleInv t := by
  rw [hm.frame]
  exact hs

/-- Settles O51: IDLE is entered only with everything wiped, and CHECK only from IDLE. -/
theorem stepKeepsIdleClean : Obligations.StepKeepsIdleClean := fun _ _ =>
  step_keeps (fun _ _ _ h => h) (fun _ _ => idleInv_of_host) (fun _ _ => idleInv_of_seq) (fun _ _ => idleInv_of_engine)
    fun s => ⟨fun _ => rfl, fun _ => resetBlock_workZero s⟩

/-! ### CW -/

theorem wordBufferInv_of_host {s t : State} (hs : WordBufferInv s) (hm : HostMove s t) : WordBufferInv t := by
  cases hm with
  | busy _ hf _ =>
    unfold HostFrame at hf
    rw [hf]
    exact hs
  | idle _ hf _ _ =>
    unfold ConfigFrame at hf
    rw [hf]
    exact hs
  | start hi =>
    refine .inl (hs.resolve_right ?_)
    simp [hi, SeqState.onErrorPath]

/-- In a state that neither loads nor uses CW, off the error path, CW is zero (R225). -/
theorem cw_zero_of_state {s : State} {st : SeqState} (hs : WordBufferInv s) (hst : s.st = st) (henc : st ≠ .bhEnc)
    (hser : st ≠ .bhSer) (hpath : SeqState.onErrorPath st = false) : s.cw = zeroW := by
  refine hs.resolve_right ?_
  rw [hst]
  simp [henc, hser, hpath]

theorem wordBufferInv_of_seq {s t : State} (hs : WordBufferInv s) (hm : SeqMove s t) : WordBufferInv t := by
  cases hm with
  | stay | issueS | issueB => exact hs
  | abort | checkFail => exact .inr (.inr (.inr rfl))
  | fault => exact .inr (.inr (.inr (State.raiseFault_onErrorPath ..)))
  | complete hu ht =>
    obtain ⟨hcw, hne, hns⟩ | hword := ht.word
    · rw [hu.st_eq] at hne hns
      obtain hz | he | hse | hp := hs
      · exact .inl (hcw.trans (hu.cw_eq.trans hz))
      · exact absurd he hne
      · exact absurd hse hns
      · exact .inr (.inr (.inr (by rw [ht.path, hu.st_eq, hp])))
    · exact .inr (hword.imp_right .inl)
  | loadConst => exact .inr (.inl rfl)
  | serialise | finish | errorEnd => exact .inl rfl
  | checkPass hst | nextRound hst | lastRound hst | lastBlock hst | nextBlock hst =>
    have hzero := cw_zero_of_state hs hst nofun nofun rfl
    exact .inl hzero

theorem wordBufferInv_of_engine {s t : State} (hs : WordBufferInv s) (hm : EngineMove s t) : WordBufferInv t := by
  rw [hm.frame]
  exact hs

/-! ### OUTBUF -/

theorem outZero_zeroOut (s : State) : OutZero s.zeroOut := fun i hi => by
  have hlt : i < 1024 := hi
  have hlo : outBase = 0x3000 := rfl
  rw [memRead_zeroOut, if_pos (by omega)]

/-- In a state that neither computes nor is CHECK, OUTBUF may hold a key. -/
theorem outputInv_of_not_computing {s : State} (hc : s.st ≠ .check) (hn : ¬Computing s.st) : OutputInv s :=
  ⟨fun h => absurd h hc, fun h => absurd h hn⟩

/-- A visit that keeps the bytes of OUTBUF at OUT_LEN and above. -/
theorem outputInv_of_run {s t : State} (hs : OutputInv s) (hcs : Computing s.st) (hct : t.st ≠ .check)
    (hlen : t.outLen = s.outLen)
    (hm : ∀ i, s.outLen.toNat ≤ i → memRead t.mem (outBase + i) = memRead s.mem (outBase + i)) : OutputInv t := by
  refine ⟨fun h => absurd h hct, fun _ i hlo hhi => ?_⟩
  rw [hlen] at hlo
  rw [hm i hlo]
  exact hs.2 hcs i hlo hhi

theorem outputInv_of_host {s t : State} (hs : OutputInv s) (hm : HostMove s t) : OutputInv t := by
  cases hm with
  | busy _ hf _ =>
    unfold HostFrame at hf
    rw [hf]
    exact hs
  | idle hi hf _ _ =>
    have hst := (st_of_configFrame hf).trans hi
    exact outputInv_of_not_computing (hst ▸ nofun) (hst ▸ not_computing_idle)
  | start => exact ⟨fun _ => outZero_zeroOut s, fun h => absurd h not_computing_check⟩

theorem outputInv_of_seq {s t : State} (hs : OutputInv s) (hm : SeqMove s t) : OutputInv t := by
  cases hm with
  | stay | issueS | issueB => exact hs
  | abort | checkFail => exact outputInv_of_not_computing nofun (not_computing_of_onErrorPath rfl)
  | fault _ he =>
    refine outputInv_of_not_computing ?_ (not_computing_of_onErrorPath (State.raiseFault_onErrorPath ..))
    rw [State.raiseFault_st, if_neg he]
    exact nofun
  | complete hu ht =>
    by_cases hpath : SeqState.onErrorPath s.st = true
    · exact outputInv_of_not_computing ht.busy.2 (not_computing_of_onErrorPath (by rw [ht.path, hu.st_eq, hpath]))
    · have hcs := computing_of_port hu.port_ne_none (Bool.eq_false_iff.2 hpath)
      exact outputInv_of_run hs hcs ht.busy.2 (ht.outLen_eq.trans hu.outLen_eq) fun i _ => by rw [ht.mem_eq, hu.mem_eq]
  | checkPass hst => exact ⟨nofun, fun _ i _ hi => hs.1 hst i hi⟩
  | loadConst hst | serialise hst | nextRound hst | lastRound hst =>
    exact outputInv_of_run hs (computing_of_state hst ⟨nofun, nofun, rfl⟩) nofun rfl fun _ _ => rfl
  | lastBlock hst | nextBlock hst =>
    exact outputInv_of_run hs (computing_of_state hst ⟨nofun, nofun, rfl⟩) nofun rfl
      fun _ hi => memRead_distMem_of_outLen_le hi
  | finish | errorEnd => exact outputInv_of_not_computing nofun not_computing_idle

theorem outputInv_of_engine {s t : State} (hs : OutputInv s) (hm : EngineMove s t) : OutputInv t := by
  rw [hm.frame]
  exact hs

/-- Settles O52: BH_LDC alone fills CW and BH_SER and the zeroisations clear it; START clears OUTBUF and DIST writes below
OUT_LEN alone. -/
theorem stepKeepsTheResidueRules : Obligations.StepKeepsTheResidueRules := fun _ _ h =>
  ⟨fun hs => step_keeps (I := WordBufferInv) (fun _ _ _ h => h) (fun _ _ => wordBufferInv_of_host)
      (fun _ _ => wordBufferInv_of_seq) (fun _ _ => wordBufferInv_of_engine) (fun _ => .inl rfl) hs h,
    fun hs => step_keeps (I := OutputInv) (fun _ _ _ h => h) (fun _ _ => outputInv_of_host)
      (fun _ _ => outputInv_of_seq) (fun _ _ => outputInv_of_engine)
      (fun _ => outputInv_of_not_computing nofun not_computing_idle) hs h⟩

/-! ### The end of a run -/

/-- What FIN_ZERO and ERR_ZERO leave alike: no secret, no abort pending, and OUT_LEN, ROUNDS and CTRL as they were (R171,
R196). -/
structure Wiped (s t : State) : Prop where
  work : WorkZero t
  inputs : InputsZero t
  abortP : t.abortP = false
  outLen : t.outLen = s.outLen
  rounds : t.rounds = s.rounds
  ieDone : t.ieDone = s.ieDone
  ieErr : t.ieErr = s.ieErr

theorem inputsZero_of_memRead {t : State} (hpw : t.pwLen = 0) (hsalt : t.saltLen = 0)
    (hm : ∀ x, x < 0x3000 → IsBufferByte t.params x → memRead t.mem x = 0) : InputsZero t := by
  have hpwMax : t.params.pwMax ≤ 0x1000 := t.params.pwMaxLess1.isLt
  have hsaltMax : t.params.saltMax ≤ 0x1000 := t.params.saltMaxLess1.isLt
  refine ⟨hpw, hsalt, fun i hi => hm _ ?_ (isBufferByte_pw hi), fun i hi => hm _ ?_ (isBufferByte_salt hi)⟩
  · unfold pwBase
    omega
  · unfold saltBase
    omega

/-- After FIN_ZERO's zeroisation the input buffers read zero (R171). -/
theorem memRead_zeroInputs_input {s : State} {x : Nat} (hx : x < 0x3000) (hb : IsBufferByte s.params x) :
    memRead s.zeroInputs.mem x = 0 := by
  rw [memRead_zeroInputs, if_pos]
  unfold IsBufferByte pwBase saltBase outBase at hb
  omega

theorem finish_wiped (s : State) : Wiped s { s.zeroSecrets with done := true, abortP := false, st := .idle } :=
  ⟨zeroSecrets_workZero s, inputsZero_of_memRead rfl rfl fun _ => memRead_zeroInputs_input (s := s), rfl, rfl, rfl, rfl, rfl⟩

theorem errorEnd_wiped (s : State) :
    Wiped s { s.zeroSecrets.zeroOut with err := true, abortP := false, st := .idle } :=
  ⟨zeroSecrets_workZero s, inputsZero_of_memRead rfl rfl fun x _ => (memRead_zeroSecrets_zeroOut s x).1, rfl, rfl, rfl,
    rfl, rfl⟩

/-- The sequencer's step into IDLE is that of FIN_ZERO or of ERR_ZERO (R171, R172, R196). -/
theorem seqMove_to_idle {s t : State} (hb : s.st ≠ .idle) (hm : SeqMove s t) (hi : t.st = .idle) :
    Wiped s t ∧ ((s.st = .finZero ∧ t.done = true ∧ t.err = s.err) ∨
      (s.st = .errZero ∧ t.err = true ∧ t.done = s.done ∧ OutZero t)) := by
  cases hm with
  | stay | issueS | issueB => exact absurd hi hb
  | abort | checkFail | checkPass | loadConst | serialise | nextRound | lastRound | lastBlock | nextBlock => cases hi
  | fault _ he =>
    rw [State.raiseFault_st, if_neg he] at hi
    cases hi
  | complete _ ht => exact absurd hi ht.busy.1
  | finish hst => exact ⟨finish_wiped s, .inl ⟨hst, rfl, rfl⟩⟩
  | errorEnd hst => exact ⟨errorEnd_wiped s, .inr ⟨hst, rfl, rfl, outZero_zeroOut s.zeroSecrets⟩⟩

/-- Settles O57: no host access and no engine leaves a busy state, and the sequencer's two ways to IDLE wipe everything. -/
theorem runsEndWithNoSecret : Obligations.RunsEndWithNoSecret := by
  intro s t hb hstep hrst hi
  rw [← takeEvent_st s] at hb
  cases step_move hrst hstep with
  | host hm =>
    cases hm with
    | busy _ hf _ => exact absurd ((visitKept_of_hostFrame hf).st.symm.trans hi) hb
    | idle h | start h => exact absurd h hb
  | engine hm => exact absurd ((st_of_engineFrame hm.frame).symm.trans hi) hb
  | seq hm =>
    obtain ⟨hw, hend⟩ := seqMove_to_idle hb hm hi
    rw [takeEvent_eq] at hw hend
    exact ⟨hw.work, hw.inputs, hw.abortP, hw.outLen, hw.rounds, hw.ieDone, hw.ieErr, hend⟩

/-! ### Reset -/

theorem runInv_resetWith (p : Params) : RunInv (State.resetWith p) :=
  ⟨bufferMemory_nil p, (portInv_iff _).2 (.quiet rfl (resetWith_portsEmpty p)), fun h => absurd h not_computing_idle,
    (reportInv_iff _).2 (.of_errCode_zero rfl rfl (fun hb => nomatch hb.1) fun hi => absurd rfl hi),
    fun _ => rfl, fun _ => resetWith_workZero p⟩

/-- Settles O55: after reset the memory and the ports are empty, and the block is idle with nothing reported. -/
theorem invariantsHoldAtReset : Obligations.InvariantsHoldAtReset := fun p =>
  ⟨runInv_resetWith p, .inl rfl, outputInv_of_not_computing nofun not_computing_idle⟩

end Sys2Proof.Proofs.Residue

/-! PROOFS. Progress (spec/10_state.md section 8): in a state that meets the invariants every agent's step answers a next state.
The sequencer's operands are in their buffers, and the engines are given the state's own requests, which decode. -/

namespace Sys2Proof.Proofs.Progress

open Sys2Proof.Machine Sys2Proof.Proofs.Frames Sys2Proof.Proofs.HostAccess Sys2Proof.Proofs.Check
open Sys2Proof.Proofs.Driver Sys2Proof.Proofs.RoundTrip Sys2Proof.Proofs.Steps Sys2Proof.Proofs.Engines
open Sys2Proof.Proofs.Moves Sys2Proof.Proofs.Agents Sys2Proof.Proofs.PortInvariant Sys2Proof.Proofs.Counters
open Sys2Proof.Proofs.MemoryInvariant Sys2Proof.Proofs.ReportInvariant Sys2Proof.Proofs.Residue
open Sys2Proof.Safety

/-! ### The host -/

theorem hostStep_progress (a : BusAccess) (s : State) : ∃ t, hostStep a s = .next t := by
  obtain h | h | ⟨i, -, -, hd, h⟩ := hostStep_cases a s <;> rw [h]
  · exact ⟨_, rfl⟩
  · exact ⟨_, rfl⟩
  · obtain ⟨t, ht, -⟩ := exec_hostbus_workingKept (decode_format hd) s
    exact ⟨t, ht⟩

/-! ### The sequencer -/

/-- While computing, and so in PH_UPD and SS_UPD, the lengths are legal (R121). -/
theorem operandFits_of_countersInv {s : State} (hs : CountersInv s) : OperandFits s := by
  rw [countersInv_iff] at hs
  exact ⟨fun hst => (hs (computing_of_state hst ⟨nofun, nofun, rfl⟩)).operandFits.1 hst,
    fun hst => (hs (computing_of_state hst ⟨nofun, nofun, rfl⟩)).operandFits.2 hst⟩

theorem exec_stateCheck_progress (s : State) : ∃ t, exec .stateCheck s = .next t := by
  by_cases hlegal : ParamsLegal s
  · exact ⟨_, exec_stateCheck_of_paramsLegal hlegal⟩
  · exact ⟨_, exec_stateCheck_of_not_paramsLegal hlegal⟩

theorem exec_stateAcc_progress (s : State) : ∃ t, exec .stateAcc s = .next t := by
  by_cases hlt : s.rndCnt.toNat < s.rounds.toNat
  · exact ⟨_, exec_stateAcc_of_lt hlt⟩
  · exact ⟨_, exec_stateAcc_of_le (le_of_not_gt hlt)⟩

theorem exec_stateDist_progress {s : State} (h : InRange s) : ∃ t, exec .stateDist s = .next t := by
  rw [exec_stateDist_eq_ite h.amt_le h.outLen_le]
  split <;> exact ⟨_, rfl⟩

theorem exec_internal_progress {s : State} (hp : s.st.port = .none) (hs : CountersInv s) :
    ∃ t, exec s.st.instr s = .next t := by
  cases hst : s.st with
  | idle | bhLdc | bhSer | finZero | errZero => exact ⟨_, rfl⟩
  | check => exact exec_stateCheck_progress s
  | acc => exact exec_stateAcc_progress s
  | dist =>
    exact exec_stateDist_progress ((countersInv_iff s).1 hs (computing_of_state hst ⟨nofun, nofun, rfl⟩))
  | _ => rw [hst] at hp; cases hp

theorem seqStep_progress {s : State} (hs : CountersInv s) : ∃ t, seqStep s = .next t := by
  obtain ⟨-, h⟩ | ⟨-, h⟩ := seqStep_cases s <;> rw [h]
  · exact ⟨_, rfl⟩
  · cases hp : s.st.port with
    | none => exact exec_internal_progress hp hs
    | portS =>
      obtain ⟨i, beats, -, -, hexec⟩ := exec_portS hp fun _ => operandFits_of_countersInv hs
      exact ⟨_, hexec⟩
    | portB =>
      obtain ⟨i, q, -, -, hexec⟩ := exec_portB hp
      exact ⟨_, hexec⟩

/-! ### The engines -/

theorem length_memBytes (m : Memory) (a n : Nat) : (memBytes m a n).length = n := by simp [memBytes]

theorem legal_of_countersInv {s : State} (hs : CountersInv s) (hc : Computing s.st) : ParamsLegal s :=
  ((countersInv_iff s).1 hs hc).legal

/-- Every request of a run is a well-formed instruction: SHA_UPDATE's payloads are of 1 to 4100 bytes (R72, R76). -/
theorem wellFormed_of_requestOf {s : State} {i : Instr} (hs : Computing s.st → ParamsLegal s)
    (h : requestOf s = some i) : WellFormed i = true := by
  have hpwMax : s.params.pwMax ≤ 4096 := s.params.pwMaxLess1.isLt
  have hsaltMax : s.params.saltMax ≤ 4096 := s.params.saltMaxLess1.isLt
  unfold requestOf at h
  cases hst : s.st with
  | phUpd =>
    obtain ⟨-, hlo, hhi, -⟩ := hs (computing_of_state hst ⟨nofun, nofun, rfl⟩)
    have hlen : s.password.length = s.pwLen.toNat := length_memBytes ..
    rw [hst] at h
    cases h
    exact decide_eq_true (by omega)
  | ssUpd =>
    obtain ⟨-, -, -, hlo, hhi, -⟩ := hs (computing_of_state hst ⟨nofun, nofun, rfl⟩)
    have hlen : s.salt.length = s.saltLen.toNat := length_memBytes ..
    have hpayload : (s.salt ++ be32 s.blkCnt).length = s.saltLen.toNat + 4 := by
      rw [List.length_append, hlen]
      rfl
    rw [hst] at h
    cases h
    exact decide_eq_true (by omega)
  | rhUpd =>
    have hlen : s.prev.toList.length = 32 := by simp
    rw [hst] at h
    cases h
    exact decide_eq_true (by omega)
  | phInit | ssInit | rhInit | phFin | ssFin | rhFin | finSclr | errSclr | bhInit | bhExp | bhE0s | bhE0p | bhEnc | bhClr
  | errBclr =>
    rw [hst] at h
    cases h
    rfl
  | _ => rw [hst] at h; cases h

/-- What the SHA-512 engine has accepted is the state's own request, which it executes (R106). -/
theorem answerStepS_progress (err : Bool) {s : State} (hp : Discipline s) (hs : CountersInv s) :
    ∃ t, answerStepS err s = .next t := by
  by_cases hacc : s.sAcc = []
  · exact ⟨s, if_pos hacc⟩
  · cases hp with
    | quiet _ he =>
      obtain ⟨-, hempty, -⟩ := he
      exact absurd hempty hacc
    | awaitsB _ h => exact absurd h.sAcc hacc
    | awaitsS _ h =>
      obtain ⟨i, beats, hreq, henc, -, ⟨-, hempty, -⟩ | ⟨-, hbeats, -⟩ | ⟨-, hempty, -⟩⟩ := h.request
      · exact absurd hempty hacc
      · have hd : decode (.portS s.sAcc) = .ok i := by
          rw [hbeats, ← henc]
          exact decodeOfEncodeIsTheInstruction i (wellFormed_of_requestOf (legal_of_countersInv hs) hreq)
        obtain ⟨mu, d, hans⟩ := exec_portS_answers (decode_format hd) { s with errDraw := err }
        exact ⟨_, (answerStepS_of_decode hacc hd).trans hans⟩
      · exact absurd hempty hacc

/-- What the Blowfish-family engine has accepted is the state's own request, which it executes (R107). -/
theorem answerStepB_progress (err : Bool) {s : State} (hp : Discipline s) (hs : CountersInv s) :
    ∃ t, answerStepB err s = .next t := by
  cases hacc : s.bAcc with
  | none => exact ⟨s, by simp [answerStepB, hacc]⟩
  | some r =>
    cases hp with
    | quiet _ he =>
      obtain ⟨-, -, -, -, hempty, -⟩ := he
      exact absurd (hacc.symm.trans hempty) nofun
    | awaitsS _ h => exact absurd (hacc.symm.trans h.bAcc) nofun
    | awaitsB _ h =>
      obtain ⟨i, q, hreq, henc, ⟨-, hempty, -⟩ | ⟨-, hq, -⟩ | ⟨-, hempty, -⟩⟩ := h.request
      · exact absurd (hacc.symm.trans hempty) nofun
      · obtain rfl : r = q := Option.some.inj (hacc.symm.trans hq)
        have hd : decode (.portB r) = .ok i := by
          rw [← henc]
          exact decodeOfEncodeIsTheInstruction i (wellFormed_of_requestOf (legal_of_countersInv hs) hreq)
        obtain ⟨sigma, w, hans⟩ := exec_portB_answers (decode_format hd) { s with errDraw := err }
        exact ⟨_, (answerStepB_of_decode hacc hd).trans hans⟩
      · exact absurd (hacc.symm.trans hempty) nofun

/-! ### One step of any agent -/

theorem runEvent_progress (e : Event) {s : State} (hp : Discipline s) (hs : CountersInv s) :
    ∃ t, runEvent e s = .next t := by
  cases e with
  | host a => exact hostStep_progress a s
  | seq => exact seqStep_progress hs
  | acceptS | acceptB | rst => exact ⟨_, rfl⟩
  | answerS err => exact answerStepS_progress err hp hs
  | answerB err => exact answerStepB_progress err hp hs

/-- Settles O53: the invariants give progress whatever event comes, and each is kept by the step. -/
theorem runsNeverStop : Obligations.RunsNeverStop := by
  rintro s ⟨hmem, hport, hcount, hreport, hidle⟩
  have hp : Discipline s.takeEvent.2 := by
    rw [takeEvent_eq]
    exact discipline_of_take ((portInv_iff s).1 hport)
  have hc : CountersInv s.takeEvent.2 := by
    rw [takeEvent_eq]
    exact hcount
  obtain ⟨t, ht⟩ := runEvent_progress s.takeEvent.1 hp hc
  exact ⟨t, ht, stepKeepsTheMemoryCanonical s t hmem ht, stepKeepsThePortDiscipline s t hport ht,
    stepKeepsTheCounterRanges s t hcount ht, stepKeepsTheReportRules s t hreport ht, stepKeepsIdleClean s t hidle ht⟩

end Sys2Proof.Proofs.Progress

/-! PROOFS. Runs over a given sequence of events (spec/10_state.md R52), and one whole visit as such a run
(spec/41_sequencer_and_ports.md R100 to R108): issue, acceptance, answer and completion with nothing between. -/

namespace Sys2Proof.Proofs.EventRuns

open Sys2Proof.Machine Sys2Proof.Proofs.Frames Sys2Proof.Proofs.HostAccess Sys2Proof.Proofs.Commands
open Sys2Proof.Proofs.PortSVisits Sys2Proof.Proofs.BcryptHash Sys2Proof.Proofs.RoundTrip Sys2Proof.Proofs.Steps
open Sys2Proof.Proofs.Engines Sys2Proof.Proofs.Requests Sys2Proof.Proofs.Moves
open Sys2Proof.Safety

/-! ### Sequences of events -/

/-- With the events `evs` next on the agenda, the machine runs from `s` to `t`, whatever stands behind them. -/
def Runs (evs : List Event) (s t : State) : Prop :=
  ∀ rest, Host.Core.run Sys2Proof.core evs.length { s with agenda := evs ++ rest } = .next { t with agenda := rest }

theorem run_succ_of_next {s u : State} (h : step s = .next u) (k : Nat) :
    Host.Core.run Sys2Proof.core (k + 1) s = Host.Core.run Sys2Proof.core k u := by
  have hcore : Sys2Proof.core.step s = .next u := h
  simp only [Host.Core.run, hcore]

/-- A run of some steps that answers a next state has a first step that does. -/
theorem exists_step_of_run_succ {s t : State} {k : Nat} (h : Host.Core.run Sys2Proof.core (k + 1) s = .next t) :
    ∃ u, step s = .next u := by
  cases hstep : step s with
  | next u => exact ⟨u, rfl⟩
  | fault r =>
    have hcore : Sys2Proof.core.step s = .fault r := hstep
    simp only [Host.Core.run, hcore] at h
    cases h
  | refused r =>
    have hcore : Sys2Proof.core.step s = .refused r := hstep
    simp only [Host.Core.run, hcore] at h
    cases h

theorem run_add {m : Nat} {s t : State} (h : Host.Core.run Sys2Proof.core m s = .next t) (n : Nat) :
    Host.Core.run Sys2Proof.core (m + n) s = Host.Core.run Sys2Proof.core n t := by
  induction m generalizing s with
  | zero =>
    cases h
    rw [Nat.zero_add]
  | succ m ih =>
    obtain ⟨u, hstep⟩ := exists_step_of_run_succ h
    rw [run_succ_of_next hstep] at h
    rw [Nat.succ_add, run_succ_of_next hstep]
    exact ih h

theorem Runs.nil (s : State) : Runs [] s s := fun _ => rfl

theorem Runs.append {xs ys : List Event} {s t u : State} (h : Runs xs s t) (h' : Runs ys t u) : Runs (xs ++ ys) s u := by
  intro rest
  rw [List.length_append, List.append_assoc, run_add (h _)]
  exact h' rest

/-- One event and then the others. -/
theorem Runs.cons {e : Event} {evs : List Event} {s u : State} (t : State)
    (h : ∀ rest, runEvent e { s with agenda := rest } = .next { t with agenda := rest }) (h' : Runs evs t u) :
    Runs (e :: evs) s u := by
  intro rest
  have hstep : step { s with agenda := e :: evs ++ rest } = .next { t with agenda := evs ++ rest } :=
    (step_of_agenda_cons rfl).trans (h _)
  rw [List.length_cons, run_succ_of_next hstep]
  exact h' rest

/-- From the state that has the events on its agenda, the machine runs through them. -/
theorem Runs.run {evs rest : List Event} {s t : State} (h : Runs evs s t) (hag : s.agenda = evs ++ rest) :
    Host.Core.run Sys2Proof.core evs.length s = .next { t with agenda := rest } := by
  have hs := h rest
  rwa [← hag] at hs

/-! ### The events of a port S visit -/

theorem runEvent_seq {s : State} (h : s.abortDue = false) : runEvent .seq s = exec s.st.instr s :=
  seqStep_of_not_abortDue (by simp [h])

/-- While a request is outstanding no abort is due (R100). -/
theorem abortDue_of_outstanding {s : State} (h : s.outstanding = true) : s.abortDue = false := by
  simp [State.abortDue, h]

theorem runEvent_seq_issueS {s : State} {i : Instr} {beats : List SBeat} (hp : s.st.port = .portS)
    (ho : s.outstanding = false) (hslot : s.sReq = []) (hab : s.abortDue = false) (hfit : OperandFits s)
    (hreq : requestOf s = some i) (henc : encode i = .portS beats) :
    runEvent .seq s = .next { s with sReq := beats, outstanding := true } := by
  obtain ⟨i', beats', hreq', henc', hexec⟩ := exec_portS hp fun _ => hfit
  obtain rfl : i = i' := Option.some.inj (hreq.symm.trans hreq')
  obtain rfl : beats = beats' := Item.portS.inj (henc.symm.trans henc')
  rw [runEvent_seq hab, hexec, visitS_issue ho hslot]

theorem runEvent_acceptS {s : State} (hreq : s.sReq ≠ []) (hacc : s.sAcc = []) :
    runEvent .acceptS s = .next { s with sAcc := s.sReq, sReq := [] } :=
  congrArg _ (if_pos ⟨hreq, hacc⟩)

theorem runEvent_answerS {s : State} {e : Bool} {i : Instr} {mu : Mu} {d : Bytes64} (hacc : s.sAcc ≠ [])
    (henc : encode i = .portS s.sAcc) (hwf : WellFormed i = true) (ho : s.outstanding = true)
    (hp : s.st.port = .portS) (hr : s.sRsp = none)
    (hans : exec i { s with errDraw := e } = .next (State.answerS mu d { s with errDraw := e })) :
    runEvent (.answerS e) s =
      .next { s with
        errDraw := e, sAcc := [], mu := muAfter mu { s with errDraw := e }
        sRsp := some { err := e, data := digestAfter d { s with errDraw := e } }, drawn := s.drawn + 1 } := by
  have hd : decode (.portS s.sAcc) = .ok i := henc ▸ decodeOfEncodeIsTheInstruction i hwf
  rw [runEvent, answerStepS_of_decode hacc hd, hans]
  exact congrArg _ (answerS_of_awaited mu d (s := { s with errDraw := e }) ho hp hr)

theorem runEvent_seq_completeS {s : State} {r : SRsp} (hp : s.st.port = .portS) (ho : s.outstanding = true)
    (hr : s.sRsp = some r) (hok : r.err = false ∨ SeqState.onErrorPath s.st = true) :
    runEvent .seq s = .next (afterS s.st r.data { s with sRsp := none, outstanding := false }) := by
  obtain ⟨-, beats, -, -, hexec⟩ := exec_portS hp fun hf => absurd (ho.symm.trans hf) (by decide)
  rw [runEvent_seq (abortDue_of_outstanding ho), hexec]
  obtain he | hpath := hok
  · obtain ⟨err, data⟩ := r
    cases he
    rw [visitS_complete ho hr]
  · rw [ErrorPath.visitS_complete_of_onErrorPath hpath ho hr]

theorem afterS_agenda (here : SeqState) (d : Bytes64) (t : State) (a : List Event) :
    afterS here d { t with agenda := a } = { afterS here d t with agenda := a } := by
  cases here <;> rfl

/-- What the SHA-512 engine answers to `i` in the context of `s`, whatever the rest of the state (R106). -/
def AnswersS (s : State) (i : Instr) (mu : Mu) (d : Bytes64) : Prop :=
  ∀ u : State, u.mu = s.mu → u.params = s.params → u.drawn = s.drawn → exec i u = .next (u.answerS mu d)

/-- The state may be left at a boundary: nothing outstanding, both ports empty, no abort to be taken. -/
structure Ready (s : State) : Prop where
  outstanding : s.outstanding = false
  empty : PortsEmpty s
  abort : s.abortDue = false

/-- A port S visit with nothing between its events: the engine's context moves on, and the completion takes its data (R100 to
R102, R106, R108). -/
theorem runs_visitS {s : State} {st : SeqState} {i : Instr} {mu : Mu} {d : Bytes64} (hst : s.st = st)
    (hp : st.port = .portS) (hs : Ready s) (hfit : OperandFits s) (hreq : requestOf s = some i)
    (hwf : WellFormed i = true) (hans : AnswersS s i mu d) (e : Bool)
    (hok : e = false ∨ SeqState.onErrorPath st = true) :
    Runs [.seq, .acceptS, .answerS e, .seq] s
      (afterS st (digestAfter d { s with errDraw := e })
        { s with mu := muAfter mu { s with errDraw := e }, errDraw := e, drawn := s.drawn + 1 }) := by
  obtain ⟨ho, ⟨hsReq, hsAcc, hsRsp, -⟩, hab⟩ := hs
  subst hst
  obtain ⟨i', beats, hreq', henc, -⟩ := exec_portS hp fun _ => hfit
  obtain rfl : i = i' := Option.some.inj (hreq.symm.trans hreq')
  obtain ⟨op, len, last, tail, hbeats⟩ := header_of_encode_portS henc
  have hne : beats ≠ [] := hbeats ▸ List.cons_ne_nil _ _
  refine .cons { s with sReq := beats, outstanding := true }
    (fun rest => runEvent_seq_issueS (s := { s with agenda := rest }) hp ho hsReq hab hfit hreq henc) ?_
  refine .cons { s with sReq := [], sAcc := beats, outstanding := true }
    (fun rest => runEvent_acceptS (s := { s with agenda := rest, sReq := beats, outstanding := true }) hne hsAcc) ?_
  refine .cons { s with
      sReq := [], sAcc := [], outstanding := true, errDraw := e, mu := muAfter mu { s with errDraw := e }
      drawn := s.drawn + 1, sRsp := some { err := e, data := digestAfter d { s with errDraw := e } } }
    (fun rest => runEvent_answerS (s := { s with agenda := rest, sReq := [], sAcc := beats, outstanding := true })
      hne henc hwf rfl hp hsRsp (hans _ rfl rfl rfl)) ?_
  refine .cons _ (fun rest => (runEvent_seq_completeS (s := { s with
      agenda := rest, sReq := [], sAcc := [], outstanding := true, errDraw := e
      mu := muAfter mu { s with errDraw := e }, drawn := s.drawn + 1
      sRsp := some { err := e, data := digestAfter d { s with errDraw := e } } }) hp rfl rfl hok).trans ?_) (.nil _)
  rw [← afterS_agenda]
  simp only [ho, hsReq, hsAcc, hsRsp]

/-! ### The events of a port B visit -/

theorem runEvent_seq_issueB {s : State} {i : Instr} {q : BReq} (hp : s.st.port = .portB) (ho : s.outstanding = false)
    (hslot : s.bReq = none) (hab : s.abortDue = false) (hreq : requestOf s = some i) (henc : encode i = .portB q) :
    runEvent .seq s = .next { s with bReq := some q, outstanding := true } := by
  obtain ⟨i', q', hreq', henc', hexec⟩ := exec_portB hp
  obtain rfl : i = i' := Option.some.inj (hreq.symm.trans hreq')
  obtain rfl : q = q' := Item.portB.inj (henc.symm.trans henc')
  rw [runEvent_seq hab, hexec, visitB_issue ho hslot]

theorem runEvent_acceptB {s : State} {q : BReq} (hreq : s.bReq = some q) (hacc : s.bAcc = none) :
    runEvent .acceptB s = .next { s with bAcc := some q, bReq := none } := by
  simp [runEvent, State.acceptB, hreq, hacc]

theorem runEvent_answerB {s : State} {e : Bool} {i : Instr} {q : BReq} {sigma : Sigma} {w : Words8}
    (hacc : s.bAcc = some q) (henc : encode i = .portB q) (hwf : WellFormed i = true) (ho : s.outstanding = true)
    (hp : s.st.port = .portB) (hr : s.bRsp = none)
    (hans : exec i { s with errDraw := e } = .next (State.answerB sigma w { s with errDraw := e })) :
    runEvent (.answerB e) s =
      .next { s with
        errDraw := e, bAcc := none, sigma := sigmaAfter sigma { s with errDraw := e }
        bRsp := some { err := e, w := wordsAfter w { s with errDraw := e } }, drawn := s.drawn + 1 } := by
  have hd : decode (.portB q) = .ok i := henc ▸ decodeOfEncodeIsTheInstruction i hwf
  rw [runEvent, answerStepB_of_decode hacc hd, hans]
  exact congrArg _ (answerB_of_awaited sigma w (s := { s with errDraw := e }) ho hp hr)

theorem runEvent_seq_completeB {s : State} {r : BRsp} (hp : s.st.port = .portB) (ho : s.outstanding = true)
    (hr : s.bRsp = some r) (hok : r.err = false ∨ SeqState.onErrorPath s.st = true) :
    runEvent .seq s = .next (afterB s.st r.w { s with bRsp := none, outstanding := false }) := by
  obtain ⟨-, q, -, -, hexec⟩ := exec_portB hp
  rw [runEvent_seq (abortDue_of_outstanding ho), hexec, visitB_complete ho hr hok]

theorem afterB_agenda (here : SeqState) (w : Words8) (t : State) (a : List Event) :
    afterB here w { t with agenda := a } = { afterB here w t with agenda := a } := by
  cases here with
  | bhE0p | bhEnc =>
    simp only [afterB]
    split <;> rfl
  | _ => rfl

/-- What the Blowfish-family engine answers to `i` in the state of `s`, whatever the rest (R107). -/
def AnswersB (s : State) (i : Instr) (sigma : Sigma) (w : Words8) : Prop :=
  ∀ u : State, u.sigma = s.sigma → u.params = s.params → u.drawn = s.drawn → exec i u = .next (u.answerB sigma w)

/-- A port B visit with nothing between its events: the engine's state moves on, and the completion takes its words (R100,
R103, R104, R107, R108). -/
theorem runs_visitB {s : State} {st : SeqState} {i : Instr} {sigma : Sigma} {w : Words8} (hst : s.st = st)
    (hp : st.port = .portB) (hs : Ready s) (hreq : requestOf s = some i) (hwf : WellFormed i = true)
    (hans : AnswersB s i sigma w) (e : Bool) (hok : e = false ∨ SeqState.onErrorPath st = true) :
    Runs [.seq, .acceptB, .answerB e, .seq] s
      (afterB st (wordsAfter w { s with errDraw := e })
        { s with sigma := sigmaAfter sigma { s with errDraw := e }, errDraw := e, drawn := s.drawn + 1 }) := by
  obtain ⟨ho, ⟨-, -, -, hbReq, hbAcc, hbRsp⟩, hab⟩ := hs
  subst hst
  obtain ⟨i', q, hreq', henc, -⟩ := exec_portB hp
  obtain rfl : i = i' := Option.some.inj (hreq.symm.trans hreq')
  refine .cons { s with bReq := some q, outstanding := true }
    (fun rest => runEvent_seq_issueB (s := { s with agenda := rest }) hp ho hbReq hab hreq henc) ?_
  refine .cons { s with bReq := none, bAcc := some q, outstanding := true }
    (fun rest => runEvent_acceptB (s := { s with agenda := rest, bReq := some q, outstanding := true }) rfl hbAcc) ?_
  refine .cons { s with
      bReq := none, bAcc := none, outstanding := true, errDraw := e
      sigma := sigmaAfter sigma { s with errDraw := e }, drawn := s.drawn + 1
      bRsp := some { err := e, w := wordsAfter w { s with errDraw := e } } }
    (fun rest => runEvent_answerB (s := { s with agenda := rest, bReq := none, bAcc := some q, outstanding := true })
      rfl henc hwf rfl hp hbRsp (hans _ rfl rfl rfl)) ?_
  refine .cons _ (fun rest => (runEvent_seq_completeB (s := { s with
      agenda := rest, bReq := none, bAcc := none, outstanding := true, errDraw := e
      sigma := sigmaAfter sigma { s with errDraw := e }, drawn := s.drawn + 1
      bRsp := some { err := e, w := wordsAfter w { s with errDraw := e } } }) hp rfl rfl hok).trans ?_) (.nil _)
  rw [← afterB_agenda]
  simp only [ho, hbReq, hbAcc, hbRsp]

/-! ### The error path -/

/-- On the error path no abort is taken (R100). -/
theorem ready_of_onErrorPath {s : State} (ho : s.outstanding = false) (he : PortsEmpty s)
    (hp : SeqState.onErrorPath s.st = true) : Ready s :=
  ⟨ho, he, by simp [State.abortDue, hp]⟩

theorem answersS_shaClear (s : State) : AnswersS s .shaClear .cleared (Config.freeDigest s.drawn) :=
  fun _ _ _ hd => hd ▸ rfl

theorem answersB_bfClear (s : State) : AnswersB s .bfClear .cleared (Config.freeWords s.drawn) :=
  fun _ _ _ hd => hd ▸ rfl

theorem requestOf_of_state {s : State} {st : SeqState} (h : s.st = st) : requestOf s = requestOf { s with st := st } := by
  rw [← h]

/-- The three visits of the error path run to IDLE: each engine keeps what its clear left, and ERR_ZERO wipes the block
(R194 to R196). -/
theorem runs_errorPath {s : State} (hst : s.st = .errSclr) (ho : s.outstanding = false) (he : PortsEmpty s)
    (e1 e2 : Bool) :
    ∃ u : State, u.params = s.params ∧ u.done = s.done ∧ u.errCode = s.errCode ∧
      (e1 = false → u.mu = .cleared) ∧ (e2 = false → u.sigma = .cleared) ∧
      Runs [.seq, .acceptS, .answerS e1, .seq, .seq, .acceptB, .answerB e2, .seq, .seq] s
        { u.zeroSecrets.zeroOut with err := true, abortP := false, st := .idle } := by
  have hsclr := runs_visitS hst rfl (ready_of_onErrorPath ho he (by rw [hst]; rfl)) ⟨by simp [hst], by simp [hst]⟩
    (requestOf_of_state hst) rfl (answersS_shaClear s) e1 (.inr rfl)
  let t : State := { s with
    st := .errBclr, mu := muAfter .cleared { s with errDraw := e1 }, errDraw := e1, drawn := s.drawn + 1 }
  have hbclr := runs_visitB (s := t) rfl rfl (ready_of_onErrorPath ho he rfl) rfl rfl (answersB_bfClear t) e2 (.inr rfl)
  let u : State := { t with
    st := .errZero, sigma := sigmaAfter .cleared { t with errDraw := e2 }, errDraw := e2, drawn := t.drawn + 1 }
  have hzero : Runs [.seq] u { u.zeroSecrets.zeroOut with err := true, abortP := false, st := .idle } :=
    .cons { u.zeroSecrets.zeroOut with err := true, abortP := false, st := .idle }
      (fun rest => runEvent_seq (ready_of_onErrorPath (s := { u with agenda := rest }) ho he rfl).abort) (.nil _)
  refine ⟨u, rfl, rfl, rfl, fun h1 => ?_, fun h2 => ?_, (hsclr.append hbclr).append hzero⟩
  · subst h1
    rfl
  · subst h2
    rfl

/-- Settles O39: the run of the three visits, and what ERR_ZERO leaves. -/
theorem errorPathEndsTheRun : Obligations.ErrorPathEndsTheRun := by
  intro s rest e1 e2 hst ho he hag
  obtain ⟨u, -, hdone, hcode, hmu, hsigma, hruns⟩ := runs_errorPath hst ho he e1 e2
  have hw := Residue.errorEnd_wiped u
  exact ⟨_, hruns.run hag, rfl, rfl, hdone, hcode, rfl, hw.work, hw.inputs, Residue.outZero_zeroOut u.zeroSecrets, rfl,
    hmu, hsigma⟩

end Sys2Proof.Proofs.EventRuns

/-! PROOFS. The undisturbed visits of the round-mixing states (spec/43_bcrypt_hash.md R140 to R149): each visit with its
error-free answer, the two loops of 64, and the whole Bcrypt-Hash. -/

namespace Sys2Proof.Proofs.HashVisits

open Sys2Proof.Machine Sys2Proof.Proofs.BcryptHash Sys2Proof.Proofs.Engines Sys2Proof.Proofs.Moves
open Sys2Proof.Proofs.EventRuns
open Sys2Proof.Safety

/-! ### Sequences of visits -/

/-- The visits `sts`, with nothing between and with error-free answers, lead from `s` to `t` (R149, R174). -/
def Visits (sts : List SeqState) (s t : State) : Prop := Runs (turns sts) s t

theorem Visits.append {xs ys : List SeqState} {s t u : State} (h : Visits xs s t) (h' : Visits ys t u) :
    Visits (xs ++ ys) s u := by
  rw [Visits, turns, List.flatMap_append]
  exact Runs.append h h'

theorem visits_of_turn {st : SeqState} {s t : State} (h : Runs (turn st) s t) : Visits [st] s t := by
  rw [Visits, turns, List.flatMap_singleton]
  exact h

/-- No abort is due where none is pending (R100). -/
theorem ready_of_quiet {s : State} (h : QuietBoundary s) : Ready s := by
  obtain ⟨ho, hab, he⟩ := h
  exact ⟨ho, he, by simp [State.abortDue, hab]⟩

section
variable {s : State} {st : SeqState} (hst : s.st = st) (hq : QuietBoundary s)
include hst hq

/-- A state without a request takes one step. -/
theorem visits_internal {t : State} (hp : st.port = .none)
    (h : ∀ rest, exec st.instr { s with agenda := rest } = .next { t with agenda := rest }) : Visits [st] s t := by
  subst hst
  refine visits_of_turn ?_
  rw [turn, hp]
  exact .cons t (fun rest => (runEvent_seq (s := { s with agenda := rest }) (ready_of_quiet hq).abort).trans (h rest)) (.nil t)

/-- A port S state takes the error-free answer of the SHA-512 engine. -/
theorem visits_portS {i : Instr} {mu : Mu} {d : Bytes64} (hp : st.port = .portS) (hfit : OperandFits s)
    (hreq : requestOf s = some i) (hwf : WellFormed i = true) (hans : AnswersS s i mu d) :
    Visits [st] s (afterS st d { s with mu := mu, errDraw := false, drawn := s.drawn + 1 }) := by
  refine visits_of_turn ?_
  rw [turn, hp]
  exact runs_visitS hst hp (ready_of_quiet hq) hfit hreq hwf hans false (.inl rfl)

/-- A port B state takes the error-free answer of the Blowfish-family engine. -/
theorem visits_portB {i : Instr} {sigma : Sigma} {w : Words8} (hp : st.port = .portB) (hreq : requestOf s = some i)
    (hwf : WellFormed i = true) (hans : AnswersB s i sigma w) :
    Visits [st] s (afterB st w { s with sigma := sigma, errDraw := false, drawn := s.drawn + 1 }) := by
  refine visits_of_turn ?_
  rw [turn, hp]
  exact runs_visitB hst hp (ready_of_quiet hq) hreq hwf hans false (.inl rfl)

end

/-! ### The engine's answers -/

theorem answersB_bfInit (s : State) : AnswersB s .bfInit (.st (bfInitOf s.params)) (Config.freeWords s.drawn) :=
  fun _ _ hp hd => hp ▸ hd ▸ rfl

section
variable {s : State} {c : List Word} (hs : s.sigma = .st c)
include hs

theorem answersB_bfExpand (a k : Bytes64) :
    AnswersB s (.bfExpand a k) (.st (bfExpandOf s.params c a k)) (Config.freeWords s.drawn) :=
  fun _ hu hp hd => hp ▸ hd ▸ exec_bfExpand (hu.trans hs) a k

theorem answersB_bfExpand0 (a : Bytes64) :
    AnswersB s (.bfExpand0 a) (.st (bfExpand0Of s.params c a)) (Config.freeWords s.drawn) :=
  fun _ hu hp hd => hp ▸ hd ▸ exec_bfExpand0 (hu.trans hs) a

theorem answersB_bfEncrypt (w : Words8) : AnswersB s (.bfEncrypt w) (.st c) (bfEncryptOf s.params c w) :=
  fun _ hu hp _ => hp ▸ exec_bfEncrypt (hu.trans hs) w

end

/-! ### The visits of one Bcrypt-Hash -/

section
variable {s : State} (hq : QuietBoundary s)
include hq

theorem visits_bhInit (hst : s.st = .bhInit) :
    Visits [.bhInit] s
      { s with st := .bhExp, sigma := .st (bfInitOf s.params), errDraw := false, drawn := s.drawn + 1 } :=
  visits_portB hst hq rfl (requestOf_of_state hst) rfl (answersB_bfInit s)

theorem visits_bhExp {c : List Word} (hst : s.st = .bhExp) (hs : s.sigma = .st c) :
    Visits [.bhExp] s
      { s with
        st := .bhE0s, iter := 0, sigma := .st (bfExpandOf s.params c s.sd s.pd), errDraw := false
        drawn := s.drawn + 1 } :=
  visits_portB hst hq rfl (requestOf_of_state hst) rfl (answersB_bfExpand hs s.sd s.pd)

/-- One visit of the encryption loop, up to the loop test (R146). -/
theorem visits_bhEnc {c : List Word} (hst : s.st = .bhEnc) (hs : s.sigma = .st c) :
    Visits [.bhEnc] s
      (afterB .bhEnc (bfEncryptOf s.params c s.cw)
        { s with sigma := .st c, errDraw := false, drawn := s.drawn + 1 }) :=
  visits_portB hst hq rfl (requestOf_of_state hst) rfl (answersB_bfEncrypt hs s.cw)

theorem visits_bhClr (hst : s.st = .bhClr) :
    Visits [.bhClr] s { s with st := .acc, sigma := .cleared, errDraw := false, drawn := s.drawn + 1 } :=
  visits_portB hst hq rfl (requestOf_of_state hst) rfl (answersB_bfClear s)

theorem visits_bhLdc (hst : s.st = .bhLdc) : Visits [.bhLdc] s { s with st := .bhEnc, cw := constWords } :=
  visits_internal hst hq rfl fun _ => constW_eq_constWords ▸ rfl

theorem visits_bhSer (hst : s.st = .bhSer) :
    Visits [.bhSer] s { s with st := .bhClr, prev := serialise s.cw, cw := zeroW } :=
  visits_internal hst hq rfl fun _ => rfl

/-- One pair of the mixing loop: the salt digest, then the password digest, then the loop test (R143, R144). -/
theorem visits_mixPair {c : List Word} (hst : s.st = .bhE0s) (hs : s.sigma = .st c) :
    Visits [.bhE0s, .bhE0p] s
      (afterB .bhE0p (Config.freeWords (s.drawn + 1)) { s with
        st := .bhE0p, sigma := .st (bfExpand0Of s.params (bfExpand0Of s.params c s.sd) s.pd), errDraw := false
        drawn := s.drawn + 2 }) := by
  have hsalt := visits_portB hst hq rfl (requestOf_of_state hst) rfl (answersB_bfExpand0 hs s.sd)
  let t : State := { s with
    st := .bhE0p, sigma := .st (bfExpand0Of s.params c s.sd), errDraw := false, drawn := s.drawn + 1 }
  exact hsalt.append (visits_portB (s := t) rfl hq rfl rfl rfl (answersB_bfExpand0 rfl s.pd))

end

theorem iter_succ {i : BitVec 6} {k : Nat} (h : i.toNat + (k + 1) = 63) : i ≠ 63 ∧ (i + 1).toNat + k = 63 := by
  constructor <;> bv_omega

theorem eq_63_of_toNat {i : BitVec 6} (h : i.toNat + 0 = 63) : i = 63 := BitVec.eq_of_toNat_eq h

/-- The mixing loop with `k` pairs to go after the next (R140 step 3, R144). -/
theorem visits_mixPairs {s : State} {c : List Word} {k : Nat} (hst : s.st = .bhE0s) (hq : QuietBoundary s)
    (hs : s.sigma = .st c) (hk : s.iter.toNat + k = 63) :
    Visits (List.replicate (k + 1) [.bhE0s, .bhE0p]).flatten s
      { s with
        st := .bhLdc, iter := 0, sigma := .st (mixPairs s.params s.pd s.sd (k + 1) c), errDraw := false
        drawn := s.drawn + 2 * (k + 1) } := by
  induction k generalizing s c with
  | zero =>
    have hpair := visits_mixPair hq hst hs
    rwa [afterB, if_pos (eq_63_of_toNat hk)] at hpair
  | succ k ih =>
    obtain ⟨hne, hk'⟩ := iter_succ hk
    have hpair := visits_mixPair hq hst hs
    rw [afterB, if_neg hne] at hpair
    let t : State := { s with
      st := .bhE0s, iter := s.iter + 1, sigma := .st (bfExpand0Of s.params (bfExpand0Of s.params c s.sd) s.pd)
      errDraw := false, drawn := s.drawn + 2 }
    have hrest := ih (s := t) rfl hq rfl hk'
    rw [show s.drawn + 2 * (k + 1 + 1) = s.drawn + 2 + 2 * (k + 1) by omega]
    exact hpair.append hrest

/-- The encryption loop with `k` visits to go after the next (R140 step 5, R146). -/
theorem visits_encrypts {s : State} {c : List Word} {k : Nat} (hst : s.st = .bhEnc) (hq : QuietBoundary s)
    (hs : s.sigma = .st c) (hk : s.iter.toNat + k = 63) :
    Visits (List.replicate (k + 1) .bhEnc) s
      { s with
        st := .bhSer, iter := 0, cw := encryptTimes s.params c (k + 1) s.cw, sigma := .st c, errDraw := false
        drawn := s.drawn + (k + 1) } := by
  induction k generalizing s with
  | zero =>
    have hvisit := visits_bhEnc hq hst hs
    rwa [afterB, if_pos (eq_63_of_toNat hk)] at hvisit
  | succ k ih =>
    obtain ⟨hne, hk'⟩ := iter_succ hk
    have hvisit := visits_bhEnc hq hst hs
    rw [afterB, if_neg hne] at hvisit
    let t : State := { s with
      st := .bhEnc, iter := s.iter + 1, cw := bfEncryptOf s.params c s.cw, sigma := .st c, errDraw := false
      drawn := s.drawn + 1 }
    have hrest := ih (s := t) rfl hq rfl hk'
    rw [show s.drawn + (k + 1 + 1) = s.drawn + 1 + (k + 1) by omega]
    exact hvisit.append hrest

/-- PREV after the serialisation of the words of bcryptHash(P, S) (R140 step 6, R147). -/
def hashBytes (p : Params) (P S : Bytes64) : Bytes32 := serialise (hashWords p P S)

theorem toList_serialise (w : Words8) : (serialise w).toList = w.toList.flatMap le32 := by
  obtain ⟨w0, w1, w2, w3, w4, w5, w6, w7, rfl⟩ : ∃ w0 w1 w2 w3 w4 w5 w6 w7, w = #v[w0, w1, w2, w3, w4, w5, w6, w7] :=
    ⟨w[0], w[1], w[2], w[3], w[4], w[5], w[6], w[7], by ext i hi; interval_cases i <;> rfl⟩
  rw [serialise, Vector.toList_ofFn]
  simp [List.ofFn_succ, le32]

theorem toList_hashBytes (p : Params) (P S : Bytes64) : (hashBytes p P S).toList = bcryptHash p P S :=
  toList_serialise _

/-- The 197 visits of one Bcrypt-Hash (R149). -/
theorem visits_hashVisits {s : State} (hst : s.st = .bhInit) (hq : QuietBoundary s) :
    Visits hashVisits s
      { s with
        st := .acc, prev := hashBytes s.params s.pd s.sd, cw := zeroW, iter := 0, sigma := .cleared
        errDraw := false, drawn := s.drawn + 195 } := by
  let c1 := bfInitOf s.params
  let c2 := bfExpandOf s.params c1 s.sd s.pd
  let c3 := mixPairs s.params s.pd s.sd 64 c2
  let s1 : State := { s with st := .bhExp, sigma := .st c1, errDraw := false, drawn := s.drawn + 1 }
  let s2 : State := { s1 with st := .bhE0s, iter := 0, sigma := .st c2, drawn := s.drawn + 2 }
  let s3 : State := { s2 with st := .bhLdc, sigma := .st c3, drawn := s.drawn + 130 }
  let s4 : State := { s3 with st := .bhEnc, cw := constWords }
  let s5 : State := { s4 with st := .bhSer, cw := hashWords s.params s.pd s.sd, drawn := s.drawn + 194 }
  let s6 : State := { s5 with st := .bhClr, prev := hashBytes s.params s.pd s.sd, cw := zeroW }
  have hinit : Visits [.bhInit] s s1 := visits_bhInit hq hst
  have hexp : Visits [.bhExp] s1 s2 := visits_bhExp (s := s1) hq rfl rfl
  have hmix : Visits (List.replicate 64 [.bhE0s, .bhE0p]).flatten s2 s3 := visits_mixPairs (s := s2) (k := 63) rfl hq rfl rfl
  have hldc : Visits [.bhLdc] s3 s4 := visits_bhLdc (s := s3) hq rfl
  have henc : Visits (List.replicate 64 .bhEnc) s4 s5 := visits_encrypts (s := s4) (k := 63) rfl hq rfl rfl
  have hser : Visits [.bhSer] s5 s6 := visits_bhSer (s := s5) hq rfl
  have hclr := visits_bhClr (s := s6) hq rfl
  exact (((hinit.append hexp).append hmix).append hldc).append henc |>.append (hser.append hclr)

/-! ### The counts -/

theorem length_flatten_replicate {α : Type} (n : Nat) (xs : List α) :
    (List.replicate n xs).flatten.length = n * xs.length := by
  simp

theorem length_hashVisits : hashVisits.length = 197 := by
  rw [hashVisits]
  simp only [List.length_append, length_flatten_replicate, List.length_replicate]
  rfl

/-- How many of the visits are transactions of port `p`. -/
def portCount (p : PortKind) (sts : List SeqState) : Nat := (sts.filter fun st => decide (st.port = p)).length

theorem portCount_append (p : PortKind) (xs ys : List SeqState) :
    portCount p (xs ++ ys) = portCount p xs + portCount p ys := by
  simp [portCount]

theorem portCount_flatten_replicate (p : PortKind) (n : Nat) (xs : List SeqState) :
    portCount p (List.replicate n xs).flatten = n * portCount p xs := by
  simp [portCount, List.filter_flatten]

theorem replicate_eq_flatten (n : Nat) (st : SeqState) : List.replicate n st = (List.replicate n [st]).flatten := by
  simp

theorem portCount_hashVisits_portB : portCount .portB hashVisits = 195 := by
  rw [hashVisits, replicate_eq_flatten 64 .bhEnc]
  simp only [portCount_append, portCount_flatten_replicate]
  rfl

theorem portCount_hashVisits_portS : portCount .portS hashVisits = 0 := by
  rw [hashVisits, replicate_eq_flatten 64 .bhEnc]
  simp only [portCount_append, portCount_flatten_replicate]
  rfl

/-- Settles O58: the visits of one Bcrypt-Hash, PREV being the serialised words. -/
theorem roundMixingComputesBcryptHash : Obligations.RoundMixingComputesBcryptHash :=
  ⟨length_hashVisits, portCount_hashVisits_portB, portCount_hashVisits_portS, fun s _ hst hq hag =>
    ⟨hashBytes s.params s.pd s.sd, toList_hashBytes _ _ _, (visits_hashVisits hst hq).run hag⟩⟩

end Sys2Proof.Proofs.HashVisits

/-! PROOFS. The undisturbed visits of one block (spec/44_pbkdf_driver.md R160 to R166, R169): the digests, and the round chain
with ACC folding each round's PREV into BLOCK. -/

namespace Sys2Proof.Proofs.RoundChain

open Sys2Proof.Machine Sys2Proof.Proofs.Driver Sys2Proof.Proofs.Engines Sys2Proof.Proofs.Moves
open Sys2Proof.Proofs.Progress Sys2Proof.Proofs.EventRuns Sys2Proof.Proofs.HashVisits
open Sys2Proof.Safety

/-! ### The digests -/

theorem answersS_shaInit (s : State) : AnswersS s .shaInit (.ctx []) (Config.freeDigest s.drawn) :=
  fun _ _ _ hd => hd ▸ rfl

/-- The one SHA_UPDATE of a digest finds the context empty (R110, R111). -/
theorem answersS_shaUpdate {s : State} (hs : s.mu = .ctx []) (p : List Byte) :
    AnswersS s (.shaUpdate p) (.ctx p) (Config.freeDigest s.drawn) :=
  fun _ hu _ hd => hd ▸ exec_shaUpdate (hu.trans hs) p

theorem answersS_shaFinal {s : State} {m : List Byte} (hs : s.mu = .ctx m) :
    AnswersS s .shaFinal (Config.freeMu s.drawn) (digestOf s.params m) :=
  fun _ hu hp hd => hp ▸ hd ▸ exec_shaFinal (hu.trans hs)

/-- The state after the first visit of a digest: STATE `st`, and an empty context. -/
def digestBegun (s : State) (st : SeqState) : State :=
  { s with st := st, mu := .ctx [], errDraw := false, drawn := s.drawn + 1 }

/-- The state after the second visit of a digest: STATE `st`, and the context `m`. -/
def digestFed (s : State) (st : SeqState) (m : List Byte) : State :=
  { s with st := st, mu := .ctx m, errDraw := false, drawn := s.drawn + 2 }

/-- The state after the three visits of a digest, STATE and the register aside. -/
def digestDone (s : State) : State := { s with mu := Config.freeMu (s.drawn + 2), errDraw := false, drawn := s.drawn + 3 }

theorem operandFits_of_legal {s : State} (h : ParamsLegal s) : OperandFits s := by
  obtain ⟨-, -, hpw, -, hsalt, -⟩ := h
  exact ⟨fun _ => hpw, fun _ => hsalt⟩

section
variable {s : State} {st : SeqState} (hst : s.st = st) (hq : QuietBoundary s) (hlegal : ParamsLegal s)
include hst hq hlegal

/-- With legal parameters every port S request of a run can be issued and decodes, so its visit is as the engine answers. -/
theorem visits_request {i : Instr} {mu : Mu} {d : Bytes64} (hp : st.port = .portS)
    (hreq : requestOf { s with st := st } = some i) (hans : AnswersS s i mu d) :
    Visits [st] s (afterS st d { s with mu := mu, errDraw := false, drawn := s.drawn + 1 }) :=
  have hreq' := (requestOf_of_state hst).trans hreq
  visits_portS hst hq hp (operandFits_of_legal hlegal) hreq' (wellFormed_of_requestOf (fun _ => hlegal) hreq') hans

end

section
variable {s : State} (hq : QuietBoundary s) (hlegal : ParamsLegal s)
include hq hlegal

/-- PD becomes the digest of the password (R126 to R128). -/
theorem visits_passwordDigest (hst : s.st = .phInit) :
    Visits [.phInit, .phUpd, .phFin] s { digestDone s with st := .ssInit, pd := digestOf s.params s.password } := by
  let t := digestBegun s .phUpd
  let u := digestFed s .phFin s.password
  have hinit : Visits [.phInit] s t := visits_request hst hq hlegal rfl rfl (answersS_shaInit s)
  have hupd : Visits [.phUpd] t u := visits_request (s := t) rfl hq hlegal rfl rfl (answersS_shaUpdate (s := t) rfl s.password)
  have hfin := visits_request (s := u) rfl hq hlegal rfl rfl (answersS_shaFinal rfl)
  exact (hinit.append hupd).append hfin

/-- SD becomes the digest of the salt and the block's number (R160 to R162). -/
theorem visits_saltDigest (hst : s.st = .ssInit) :
    Visits [.ssInit, .ssUpd, .ssFin] s
      { digestDone s with st := .bhInit, sd := digestOf s.params (s.salt ++ be32 s.blkCnt) } := by
  let t := digestBegun s .ssUpd
  let u := digestFed s .ssFin (s.salt ++ be32 s.blkCnt)
  have hinit : Visits [.ssInit] s t := visits_request hst hq hlegal rfl rfl (answersS_shaInit s)
  have hupd : Visits [.ssUpd] t u :=
    visits_request (s := t) rfl hq hlegal rfl rfl (answersS_shaUpdate (s := t) rfl (s.salt ++ be32 s.blkCnt))
  have hfin := visits_request (s := u) rfl hq hlegal rfl rfl (answersS_shaFinal rfl)
  exact (hinit.append hupd).append hfin

/-- SD becomes the digest of PREV (R164 to R166). -/
theorem visits_rehash (hst : s.st = .rhInit) :
    Visits [.rhInit, .rhUpd, .rhFin] s
      { digestDone s with st := .bhInit, sd := digestOf s.params s.prev.toList } := by
  let t := digestBegun s .rhUpd
  let u := digestFed s .rhFin s.prev.toList
  have hinit : Visits [.rhInit] s t := visits_request hst hq hlegal rfl rfl (answersS_shaInit s)
  have hupd : Visits [.rhUpd] t u :=
    visits_request (s := t) rfl hq hlegal rfl rfl (answersS_shaUpdate (s := t) rfl s.prev.toList)
  have hfin := visits_request (s := u) rfl hq hlegal rfl rfl (answersS_shaFinal rfl)
  exact (hinit.append hupd).append hfin

end

/-! ### The rounds of a block -/

/-- From `s` to `t` only what the rounds of a block write differs: STATE, RNDCNT, ITER, the working registers but PD, the
engines' contexts, and what the run has drawn. -/
def BlockFrame (s t : State) : Prop :=
  t = { s with
    st := t.st, rndCnt := t.rndCnt, iter := t.iter, sd := t.sd, block := t.block, prev := t.prev, cw := t.cw, mu := t.mu
    sigma := t.sigma, errDraw := t.errDraw, drawn := t.drawn }

theorem BlockFrame.trans {s t u : State} (h : BlockFrame s t) (h' : BlockFrame t u) : BlockFrame s u := by
  unfold BlockFrame at h h' ⊢
  rw [h', h]

theorem BlockFrame.quiet {s t : State} (h : BlockFrame s t) (hq : QuietBoundary s) : QuietBoundary t := by
  unfold BlockFrame at h
  rw [h]
  exact hq

/-- The visits of one further round (R164 to R166, R163). -/
def roundVisits : List SeqState := [.rhInit, .rhUpd, .rhFin] ++ hashVisits ++ [.acc]

/-- `t` is at the DIST of the block that `s` computes, with BLOCK the bytes `x`. -/
structure BlockDone (s t : State) (x : List Byte) : Prop where
  st : t.st = .dist
  frame : BlockFrame s t
  rndCnt : t.rndCnt = s.rounds
  sigma : t.sigma = .cleared
  block : t.block.toList = x

theorem toList_xor32 (a b : Bytes32) : (xor32 a b).toList = List.zipWith (· ^^^ ·) a.toList b.toList := by
  refine List.ext_getElem (by simp) fun i hi _ => ?_
  simp [xor32]

/-- Past round 1, BLOCK takes PREV in by exclusive or (R163). -/
theorem toList_foldedBlock {s : State} (h : s.rndCnt.toNat ≠ 1) :
    (foldedBlock s).toList = List.zipWith (· ^^^ ·) s.block.toList s.prev.toList := by
  have hne : s.rndCnt ≠ 1 := fun he => h (by rw [he]; rfl)
  rw [foldedBlock, if_neg hne, toList_xor32]

/-- From the ACC of round r + 1, with `j` rounds to go, the visits lead to DIST with the exclusive or of all rounds' outputs in
BLOCK (R163, R169). -/
theorem visits_rounds {s : State} {S : Bytes64} {r j : Nat} (hst : s.st = .acc) (hq : QuietBoundary s)
    (hlegal : ParamsLegal s) (hsigma : s.sigma = .cleared) (hrnd : s.rndCnt.toNat = r + 1)
    (hrounds : s.rounds.toNat = r + j + 1) (hprev : s.prev.toList = chainHash s.params s.pd S r)
    (hblock : (foldedBlock s).toList = chainXor s.params s.pd S r) :
    ∃ t, Visits ([.acc] ++ (List.replicate j roundVisits).flatten) s t ∧
      BlockDone s t (chainXor s.params s.pd S (r + j)) := by
  induction j generalizing s r with
  | zero =>
    have hall : s.rndCnt.toNat = s.rounds.toNat := by omega
    have hacc : Visits [.acc] s { s with block := foldedBlock s, st := .dist } :=
      visits_internal hst hq rfl fun rest => exec_stateAcc_of_le (s := { s with agenda := rest }) hall.ge
    exact ⟨_, hacc, rfl, rfl, BitVec.eq_of_toNat_eq hall, hsigma, hblock⟩
  | succ j ih =>
    let t : State := { s with block := foldedBlock s, rndCnt := s.rndCnt + 1, st := .rhInit }
    let u : State := { digestDone t with st := .bhInit, sd := digestOf s.params s.prev.toList }
    let v : State := { u with
      st := .acc, prev := hashBytes s.params s.pd u.sd, cw := zeroW, iter := 0, sigma := .cleared, drawn := u.drawn + 195 }
    have hmore : s.rndCnt.toNat < s.rounds.toNat := by omega
    have hacc : Visits [.acc] s t :=
      visits_internal hst hq rfl fun rest => exec_stateAcc_of_lt (s := { s with agenda := rest }) hmore
    have hdigest : Visits [.rhInit, .rhUpd, .rhFin] t u := visits_rehash hq hlegal rfl
    have hhash : Visits hashVisits u v := visits_hashVisits (s := u) rfl hq
    have hsucc : (s.rndCnt + 1).toNat = s.rndCnt.toNat + 1 := by bv_omega
    have hcount : v.rndCnt.toNat = r + 1 + 1 := hsucc.trans (by rw [hrnd])
    have houtput : v.prev.toList = chainHash s.params s.pd S (r + 1) := by
      rw [chainHash, ← hprev]
      exact toList_hashBytes _ _ _
    have hfold : (foldedBlock v).toList = chainXor s.params s.pd S (r + 1) := by
      have hfolded : (foldedBlock v).toList = List.zipWith (· ^^^ ·) v.block.toList v.prev.toList :=
        toList_foldedBlock (by omega)
      rw [hfolded, houtput, chainXor, ← hblock]
      rfl
    have hleft : s.rounds.toNat = r + 1 + j + 1 := by omega
    obtain ⟨w, hvisits, hdone⟩ := ih (s := v) rfl hq hlegal rfl hcount hleft houtput hfold
    have hframe : BlockFrame s v := rfl
    refine ⟨w, ?_, hdone.st, hframe.trans hdone.frame, hdone.rndCnt, hdone.sigma, ?_⟩
    · have hall := ((hacc.append hdigest).append hhash).append hvisits
      simpa only [List.replicate_succ, List.flatten_cons, roundVisits, List.append_assoc] using hall
    · rw [hdone.block, Nat.add_right_comm]
      rfl

/-- The visits of a block up to its DIST leave in BLOCK the exclusive or of its rounds' outputs (R160 to R166, R169). -/
theorem visits_block {s : State} (hst : s.st = .ssInit) (hq : QuietBoundary s) (hlegal : ParamsLegal s)
    (hrnd : s.rndCnt = 1) :
    ∃ t, Visits ([.ssInit, .ssUpd, .ssFin] ++ chainVisits s.rounds.toNat) s t ∧
      BlockDone s t
        (chainXor s.params s.pd (digestOf s.params (s.salt ++ be32 s.blkCnt)) (s.rounds.toNat - 1)) := by
  obtain ⟨hr, -⟩ := id hlegal
  let t : State := { digestDone s with st := .bhInit, sd := digestOf s.params (s.salt ++ be32 s.blkCnt) }
  let u : State := { t with
    st := .acc, prev := hashBytes s.params s.pd t.sd, cw := zeroW, iter := 0, sigma := .cleared, drawn := t.drawn + 195 }
  have hdigest : Visits [.ssInit, .ssUpd, .ssFin] s t := visits_saltDigest hq hlegal hst
  have hhash : Visits hashVisits t u := visits_hashVisits (s := t) rfl hq
  have houtput : u.prev.toList = chainHash s.params s.pd t.sd 0 := toList_hashBytes _ _ _
  have hfold : (foldedBlock u).toList = chainXor s.params s.pd t.sd 0 := by
    have hfirst : foldedBlock u = u.prev := if_pos hrnd
    rw [hfirst, houtput, chainXor]
  have hone : s.rndCnt.toNat = 0 + 1 := by rw [hrnd]; rfl
  obtain ⟨v, hvisits, hdone⟩ := visits_rounds (s := u) (j := s.rounds.toNat - 1) rfl hq hlegal rfl hone
    (show s.rounds.toNat = 0 + (s.rounds.toNat - 1) + 1 by omega) houtput hfold
  rw [Nat.zero_add] at hdone
  have hframe : BlockFrame s u := rfl
  refine ⟨v, ?_, hdone.st, hframe.trans hdone.frame, hdone.rndCnt, hdone.sigma, hdone.block⟩
  have hall := (hdigest.append hhash).append hvisits
  simpa only [chainVisits, roundVisits, List.append_assoc] using hall

/-- Settles O59: the visits of the block, and what their frame keeps. -/
theorem roundChainComputesTheBlock : Obligations.RoundChainComputesTheBlock := by
  intro s rest hst hq hlegal hrnd hag
  obtain ⟨t, hvisits, hdone⟩ := visits_block hst hq hlegal hrnd
  have hframe := hdone.frame
  unfold BlockFrame at hframe
  refine ⟨_, hvisits.run hag, hdone.st, hdone.frame.quiet hq, rfl, hdone.rndCnt, ?_, ?_, ?_, ?_, ?_, ?_, hdone.block⟩ <;>
    rw [hframe]

end Sys2Proof.Proofs.RoundChain

/-! PROOFS. The whole undisturbed run (spec/44_pbkdf_driver.md R167 to R174): how many visits it has, what OUTBUF holds after each
block, and the derived key at its end. -/

namespace Sys2Proof.Proofs.WholeRun

open Sys2Proof.Machine Sys2Proof.Proofs.Check Sys2Proof.Proofs.Driver Sys2Proof.Proofs.Buffers
open Sys2Proof.Proofs.Counters Sys2Proof.Proofs.Residue Sys2Proof.Proofs.EventRuns Sys2Proof.Proofs.HashVisits
open Sys2Proof.Proofs.RoundChain
open Sys2Proof.Safety

/-! ### The counts -/

theorem length_runVisits (k j : Nat) : (runVisits k (j + 1)).length = 6 + k * (1 + 201 * (j + 1)) := by
  simp only [runVisits, blockVisits, chainVisits, List.length_append, length_flatten_replicate, length_hashVisits,
    Nat.add_sub_cancel, List.length_cons, List.length_nil]
  ring

theorem portCount_runVisits_portS (k j : Nat) : portCount .portS (runVisits k (j + 1)) = 4 + 3 * k * (j + 1) := by
  simp only [runVisits, blockVisits, chainVisits, portCount_append, portCount_flatten_replicate,
    portCount_hashVisits_portS, Nat.add_sub_cancel]
  simp only [portCount, List.filter, SeqState.port, reduceCtorEq, decide_false, decide_true, List.length_cons,
    List.length_nil]
  ring

theorem portCount_runVisits_portB (k j : Nat) : portCount .portB (runVisits k (j + 1)) = 195 * k * (j + 1) := by
  simp only [runVisits, blockVisits, chainVisits, portCount_append, portCount_flatten_replicate,
    portCount_hashVisits_portB, Nat.add_sub_cancel]
  simp only [portCount, List.filter, SeqState.port, reduceCtorEq, decide_false, List.length_nil]
  ring

/-! ### OUTBUF block by block -/

/-- From `s` to `t` only what a run writes before its end differs: the configuration, CTRL, the flags and ERRCODE stay. -/
def RunFrame (s t : State) : Prop :=
  t = { s with
    st := t.st, blkCnt := t.blkCnt, rndCnt := t.rndCnt, stride := t.stride, amt := t.amt, remain := t.remain
    iter := t.iter, pd := t.pd, sd := t.sd, block := t.block, prev := t.prev, cw := t.cw, mem := t.mem, mu := t.mu
    sigma := t.sigma, errDraw := t.errDraw, drawn := t.drawn }

theorem runFrame_of_blockFrame {s t : State} (h : BlockFrame s t) : RunFrame s t := by
  unfold BlockFrame at h
  unfold RunFrame
  rw [h]

section
variable {s t : State} (h : RunFrame s t)
include h

theorem RunFrame.trans {u : State} (h' : RunFrame t u) : RunFrame s u := by
  unfold RunFrame at h h' ⊢
  rw [h', h]

theorem RunFrame.quiet (hq : QuietBoundary s) : QuietBoundary t := by
  unfold RunFrame at h
  rw [h]
  exact hq

theorem RunFrame.legal (hlegal : ParamsLegal s) : ParamsLegal t := by
  unfold RunFrame at h
  rw [h]
  exact hlegal

theorem RunFrame.params_eq : t.params = s.params := (congrArg State.params h :)

theorem RunFrame.outLen_eq : t.outLen = s.outLen := (congrArg State.outLen h :)

theorem RunFrame.saltLen_eq : t.saltLen = s.saltLen := (congrArg State.saltLen h :)

theorem RunFrame.rounds_eq : t.rounds = s.rounds := (congrArg State.rounds h :)

theorem RunFrame.err_eq : t.err = s.err := (congrArg State.err h :)

theorem RunFrame.errCode_eq : t.errCode = s.errCode := (congrArg State.errCode h :)

end

/-- After `c` blocks of the run that `s` begins: OUTBUF holds the key's bytes of those blocks and is zero elsewhere (R168), and
the input buffers are as they were. -/
structure KeyMemory (s : State) (c : Nat) (m : Memory) : Prop where
  wf : Memory.wf m
  inputs : ∀ x < 0x3000, memRead m x = memRead s.mem x
  key : ∀ d < s.outLen.toNat, memRead m (0x3000 + d) =
    if d % ((s.outLen.toNat + 31) / 32) < c then
      derivedByte s.params s.password s.salt s.outLen.toNat s.rounds.toNat d
    else 0
  rest : ∀ d, s.outLen.toNat ≤ d → d < 1024 → memRead m (0x3000 + d) = 0

/-- Before the first block OUTBUF is zero (R88). -/
theorem keyMemory_zero {s : State} (hm : Memory.wf s.mem) (ho : OutZero s) (hn : s.outLen.toNat ≤ 1024) :
    KeyMemory s 0 s.mem where
  wf := hm
  inputs _ _ := rfl
  key d hd := by
    rw [if_neg (Nat.not_lt_zero _)]
    exact ho d (hd.trans_le hn)
  rest d _ hd := ho d hd

theorem RunFrame.salt_eq {s t : State} {c : Nat} (hf : RunFrame s t) (h : KeyMemory s c t.mem) (hlegal : ParamsLegal s) :
    t.salt = s.salt := by
  obtain ⟨-, -, -, -, hlen, -⟩ := hlegal
  have hmax : s.params.saltMax ≤ 0x1000 := s.params.saltMaxLess1.isLt
  rw [State.salt, State.salt, memBytes, memBytes, hf.saltLen_eq]
  refine List.map_congr_left fun i hi => h.inputs _ ?_
  have hi' : i < s.saltLen.toNat := List.mem_range.1 hi
  unfold saltBase
  omega

/-- Position d of the key is that of byte d / k of block d mod k + 1, and of no other (R168). -/
theorem distPos_eq_iff {t : State} {d i : Nat} (h : InRange t) :
    distPos t i = d ↔ d / t.stride.toNat = i ∧ d % t.stride.toNat = t.blkCnt.toNat - 1 := by
  have hlt : t.blkCnt.toNat - 1 < t.stride.toNat := by
    have := h.blkCnt_pos
    have := h.blkCnt_le
    omega
  rw [Nat.div_mod_unique h.stride_pos, distPos, Nat.add_comm, Nat.mul_comm, and_iff_left hlt]

/-- DIST places the byte of every position of its block below n (R167, R168). -/
theorem memRead_distMem_of_mod {t : State} {d : Nat} (h : InRange t) (hf : ¬Final t.st) (hm : Memory.wf t.mem)
    (hd : d < t.outLen.toNat) (hmod : d % t.stride.toNat = t.blkCnt.toNat - 1) :
    memRead (distMem t) (0x3000 + d) = t.block.toList.getD (d / t.stride.toNat) 0 := by
  have hpos : distPos t (d / t.stride.toNat) = d := (distPos_eq_iff h).2 ⟨rfl, hmod⟩
  have hcount : d / t.stride.toNat < t.distCount := by
    rw [h.distCount_eq hf, ← position_lt_iff h.blkCnt_pos h.blkCnt_le]
    exact hpos.trans_lt hd
  have h32 : d / t.stride.toNat < 32 := by
    have hstride := h.stride
    exact Nat.div_lt_of_lt_mul (by omega)
  have hat := memRead_distMem_at hm h.stride_pos h.blkCnt_pos h32 hcount
  rw [hpos] at hat
  rw [hat, List.getD_eq_getElem _ _ (by simpa using h32)]
  rfl

/-- DIST of block c + 1 puts the block's bytes of the key into OUTBUF (R167, R168). -/
theorem KeyMemory.dist {s t : State} {c : Nat} (h : KeyMemory s c t.mem) (hr : InRange t) (hf : ¬Final t.st)
    (hframe : RunFrame s t) (hc : t.blkCnt.toNat = c + 1)
    (hblock : t.block.toList = derivedBlock s.params s.password s.salt s.rounds.toNat (c + 1)) :
    KeyMemory s (c + 1) (distMem t) := by
  have hk : t.stride.toNat = (s.outLen.toNat + 31) / 32 := by rw [hr.stride, hframe.outLen_eq]
  have hn := hframe.outLen_eq
  refine ⟨memScatter_wf h.wf _ _ _, fun x hx => ?_, fun d hd => ?_, fun d hlo hhi => ?_⟩
  · rw [memRead_distMem_other hr.blkCnt_pos fun i _ => by omega]
    exact h.inputs x hx
  · rw [← hk]
    by_cases hd' : d % t.stride.toNat = c
    · rw [memRead_distMem_of_mod hr hf h.wf (hn ▸ hd) (by omega), hblock, if_pos (by omega), derivedByte, ← hk, hd']
    · have hother : memRead (distMem t) (0x3000 + d) = memRead t.mem (0x3000 + d) :=
        memRead_distMem_other hr.blkCnt_pos fun i _ heq => by
          obtain ⟨-, hmod⟩ := (distPos_eq_iff hr).1 (Nat.add_left_cancel heq).symm
          omega
      rw [hother, h.key d hd, ← hk]
      exact if_congr (by omega) rfl rfl
  · exact (memRead_distMem_of_outLen_le (hn ▸ hlo)).trans (h.rest d hlo hhi)

/-! ### One block after the other -/

/-- `t` is at the SS_INIT of block c + 1 of the run that `s` begins. -/
structure BeforeBlock (s : State) (c : Nat) (t : State) : Prop where
  st : t.st = .ssInit
  frame : RunFrame s t
  range : InRange t
  blkCnt : t.blkCnt.toNat = c + 1
  rndCnt : t.rndCnt = 1
  pd : t.pd = digestOf s.params s.password
  mem : KeyMemory s c t.mem

/-- `t` is at the DIST of block c + 1, which completes the key's bytes of that block. -/
structure AtDist (s : State) (c : Nat) (t : State) : Prop where
  st : t.st = .dist
  frame : RunFrame s t
  range : InRange t
  blkCnt : t.blkCnt.toNat = c + 1
  sigma : t.sigma = .cleared
  pd : t.pd = digestOf s.params s.password
  mem : KeyMemory s (c + 1) (distMem t)

/-- `t` is at FIN_SCLR with the whole key in OUTBUF. -/
structure KeyPlaced (s t : State) : Prop where
  st : t.st = .finSclr
  frame : RunFrame s t
  sigma : t.sigma = .cleared
  mem : KeyMemory s ((s.outLen.toNat + 31) / 32) t.mem

theorem not_final_ssInit {s : State} (h : s.st = .ssInit) : ¬Final s.st := not_final_of_state h (not_final nofun nofun)

theorem not_final_dist {s : State} (h : s.st = .dist) : ¬Final s.st := not_final_of_state h (not_final nofun nofun)

theorem inRange_of_blockDone {t u : State} {x : List Byte} (h : InRange t) (hst : t.st = .ssInit) (hu : BlockDone t u x) :
    InRange u := by
  obtain ⟨hrounds, -⟩ := id h.legal
  have hst' : ¬Final u.st := not_final_dist hu.st
  have hrnd := hu.rndCnt
  have hframe := hu.frame
  unfold BlockFrame at hframe
  rw [hframe] at hst' hrnd ⊢
  exact ⟨h.legal, h.stride, h.amt, h.blkCnt_pos, h.blkCnt_le, hrounds.trans_eq (congrArg _ hrnd.symm),
    (congrArg _ hrnd).le, fun hf => absurd hf hst', fun _ => h.remain (not_final_ssInit hst)⟩

section
variable {s : State} (hq : QuietBoundary s) (hlegal : ParamsLegal s)
include hq hlegal

theorem visits_toDist {t : State} {c : Nat} (h : BeforeBlock s c t) :
    ∃ u, Visits ([.ssInit, .ssUpd, .ssFin] ++ chainVisits s.rounds.toNat) t u ∧ AtDist s c u := by
  obtain ⟨u, hvisits, hu⟩ := visits_block h.st (h.frame.quiet hq) h.range.legal h.rndCnt
  have hrounds := h.frame.rounds_eq
  have hmem : u.mem = t.mem := (congrArg State.mem hu.frame :)
  have hblk : u.blkCnt = t.blkCnt := (congrArg State.blkCnt hu.frame :)
  have hpd : u.pd = t.pd := (congrArg State.pd hu.frame :)
  have hnumber : t.blkCnt = BitVec.ofNat 32 (c + 1) := by rw [← h.blkCnt, BitVec.ofNat_toNat, BitVec.setWidth_eq]
  have hblock := hu.block
  rw [h.frame.params_eq, hrounds, h.pd, h.frame.salt_eq h.mem hlegal, hnumber] at hblock
  have hframe := h.frame.trans (runFrame_of_blockFrame hu.frame)
  have hrange := inRange_of_blockDone h.range h.st hu
  have hcount : u.blkCnt.toNat = c + 1 := by rw [hblk, h.blkCnt]
  exact ⟨u, hrounds ▸ hvisits, hu.st, hframe, hrange, hcount, hu.sigma, hpd.trans h.pd,
    (hmem ▸ h.mem).dist hrange (not_final_dist hu.st) hframe hcount hblock⟩

omit hlegal in
/-- Short of the last block DIST goes on with the next (R167). -/
theorem AtDist.next {t : State} {c : Nat} (h : AtDist s c t) (hc : c + 1 < (s.outLen.toNat + 31) / 32) :
    ∃ u, Visits [.dist] t u ∧ BeforeBlock s (c + 1) u := by
  have hstride : t.stride.toNat = (s.outLen.toNat + 31) / 32 := by rw [h.range.stride, h.frame.outLen_eq]
  have hf := not_final_dist h.st
  have hleft : t.remain.toNat - t.distCount ≠ 0 := by
    rw [Ne, h.range.remain_sub_distCount_eq_zero_iff hf, h.blkCnt]
    omega
  have hsucc : (t.blkCnt + 1).toNat = c + 1 + 1 := by
    have := h.blkCnt
    have := t.stride.isLt
    bv_omega
  let u : State := { t with
    mem := distMem t, remain := BitVec.ofNat 11 (t.remain.toNat - t.distCount), blkCnt := t.blkCnt + 1, rndCnt := 1
    st := .ssInit }
  have hne : t.remain.toNat ≠ t.distCount := fun he => hleft (Nat.sub_eq_zero_of_le he.le)
  have hdist : Visits [.dist] t u := visits_internal h.st (h.frame.quiet hq) rfl fun rest =>
    exec_stateDist_next (s := { t with agenda := rest }) h.range.amt_le h.range.outLen_le h.range.blkCnt_pos hne
  exact ⟨u, hdist, rfl, h.frame.trans rfl, h.range.of_nextBlock hf hleft _, hsucc, rfl, h.pd, h.mem⟩

omit hlegal in
/-- After the last block the key is complete (R167, R168). -/
theorem AtDist.last {t : State} {c : Nat} (h : AtDist s c t) (hc : c + 1 = (s.outLen.toNat + 31) / 32) :
    ∃ u, Visits [.dist] t u ∧ KeyPlaced s u := by
  have hstride : t.stride.toNat = (s.outLen.toNat + 31) / 32 := by rw [h.range.stride, h.frame.outLen_eq]
  have hnone : t.remain.toNat - t.distCount = 0 := by
    rw [h.range.remain_sub_distCount_eq_zero_iff (not_final_dist h.st), h.blkCnt]
    omega
  let u : State := { t with mem := distMem t, remain := 0, st := .finSclr }
  have hle := distCount_le h.range.blkCnt_pos
  have heq : t.remain.toNat = t.distCount := by omega
  have hdist : Visits [.dist] t u := visits_internal h.st (h.frame.quiet hq) rfl fun rest =>
    exec_stateDist_last (s := { t with agenda := rest }) h.range.amt_le h.range.outLen_le heq
  exact ⟨u, hdist, rfl, h.frame.trans rfl, h.sigma, hc ▸ h.mem⟩

/-- The blocks from c + 1 to the last, one after the other (R173). -/
theorem visits_blocks {t : State} {c j : Nat} (h : BeforeBlock s c t) (hj : c + (j + 1) = (s.outLen.toNat + 31) / 32) :
    ∃ u, Visits (List.replicate (j + 1) (blockVisits s.rounds.toNat)).flatten t u ∧ KeyPlaced s u := by
  induction j generalizing t c with
  | zero =>
    obtain ⟨u, hchain, hu⟩ := visits_toDist hq hlegal h
    obtain ⟨v, hdist, hv⟩ := hu.last hq hj
    exact ⟨v, by simpa [blockVisits] using hchain.append hdist, hv⟩
  | succ j ih =>
    obtain ⟨u, hchain, hu⟩ := visits_toDist hq hlegal h
    obtain ⟨v, hdist, hv⟩ := hu.next hq (by omega)
    obtain ⟨w, hrest, hw⟩ := ih hv (by omega)
    exact ⟨w, (hchain.append hdist).append hrest, hw⟩

/-! ### The beginning and the end -/

/-- CHECK and the password digest lead to the first block (R121, R126 to R128). -/
theorem visits_setup (hst : s.st = .check) (hm : Memory.wf s.mem) (ho : OutZero s) :
    ∃ t, Visits [.check, .phInit, .phUpd, .phFin] s t ∧ BeforeBlock s 0 t := by
  obtain ⟨-, -, -, -, -, -, hn⟩ := id hlegal
  let t : State := { s with
    stride := strideOf s.outLen, amt := amtOf s.outLen, remain := s.outLen.setWidth 11, blkCnt := 1, rndCnt := 1
    iter := 0, st := .phInit }
  have hcheck : Visits [.check] s t :=
    visits_internal hst hq rfl fun rest => exec_stateCheck_of_paramsLegal (s := { s with agenda := rest }) hlegal
  have hrange : InRange t := inRange_of_checkPass hlegal
  have hnot : ¬Final t.st := not_final (st := .phInit) nofun nofun
  refine ⟨_, hcheck.append (visits_passwordDigest (s := t) hq hlegal rfl), rfl, rfl, ?_, rfl, rfl, rfl,
    keyMemory_zero hm ho hn⟩
  exact ⟨hlegal, hrange.stride, hrange.amt, hrange.blkCnt_pos, hrange.blkCnt_le, hrange.rndCnt_pos, hrange.rndCnt_le,
    fun hf => absurd hf (not_final (st := .ssInit) nofun nofun), fun _ => hrange.remain hnot⟩

/-- FIN_SCLR clears the SHA-512 engine, and FIN_ZERO wipes the block but OUTBUF and ends the run (R170, R171). -/
theorem visits_finish {t : State} (h : KeyPlaced s t) :
    ∃ u : State, Visits [.finSclr, .finZero] t { u.zeroSecrets with done := true, abortP := false, st := .idle } ∧
      u.mem = t.mem ∧ u.mu = .cleared ∧ u.sigma = t.sigma ∧ u.err = t.err ∧ u.errCode = t.errCode := by
  have hqt := h.frame.quiet hq
  let u : State := { t with st := .finZero, mu := .cleared, errDraw := false, drawn := t.drawn + 1 }
  have hclear : Visits [.finSclr] t u := visits_request h.st hqt (h.frame.legal hlegal) rfl rfl (answersS_shaClear t)
  exact ⟨u, hclear.append (visits_internal (s := u) rfl hqt rfl fun _ => rfl), rfl, rfl, rfl, rfl, rfl⟩

end

/-- The end of a run leaves OUTBUF as it was (R171). -/
theorem memRead_zeroSecrets_out (s : State) (d : Nat) :
    memRead s.zeroSecrets.mem (0x3000 + d) = memRead s.mem (0x3000 + d) := by
  have hpwMax : s.params.pwMax ≤ 0x1000 := s.params.pwMaxLess1.isLt
  have hsaltMax : s.params.saltMax ≤ 0x1000 := s.params.saltMaxLess1.isLt
  exact (memRead_zeroInputs s _).trans (if_neg (by omega))

/-- Settles O60: the counts, and the run from CHECK through its blocks to FIN_ZERO. -/
theorem undisturbedRunDerivesTheKey : Obligations.UndisturbedRunDerivesTheKey := by
  refine ⟨fun k r hr => ?_, ?_⟩
  · obtain ⟨j, rfl⟩ := Nat.exists_eq_add_of_le' hr
    exact ⟨length_runVisits k j, portCount_runVisits_portS k j, portCount_runVisits_portB k j⟩
  · intro s rest hst hq hlegal hmem ho n visits hag
    obtain ⟨-, -, -, -, -, hlo, -⟩ := id hlegal
    obtain ⟨j, hj⟩ : ∃ j, (n + 31) / 32 = j + 1 := Nat.exists_eq_add_of_le' (show 1 ≤ (n + 31) / 32 by omega)
    obtain ⟨t, hsetup, ht⟩ := visits_setup hq hlegal hst hmem.1 ho
    obtain ⟨u, hblocks, hu⟩ := visits_blocks hq hlegal (j := j) ht (by omega)
    obtain ⟨v, hfinish, hvmem, hmu, hsigma, herr, hcode⟩ := visits_finish hq hlegal hu
    have hall : Visits visits s _ := hj ▸ (hsetup.append hblocks).append hfinish
    have hw := finish_wiped v
    refine ⟨_, hall.run hag, rfl, rfl, herr.trans hu.frame.err_eq, hcode.trans hu.frame.errCode_eq, rfl, hw.work, hw.inputs, hmu, hsigma.trans hu.sigma,
      fun d hd => ?_, fun d hlo hhi => ?_⟩
    · refine (memRead_zeroSecrets_out v d).trans ?_
      rw [hvmem, hu.mem.key d hd, if_pos (Nat.mod_lt _ (by omega))]
    · refine (memRead_zeroSecrets_out v d).trans ?_
      rw [hvmem, hu.mem.rest d hlo hhi]

end Sys2Proof.Proofs.WholeRun
